-- ==== Sys2Proof/Word.lean ====
section
/-! DEFINITION. The two word types of the KFC: a byte of the line and of the byte buffers, and the 32-bit word of the
host bus and of the command register (spec R8, R9, R42, R60). -/

namespace Sys2Proof

/-- A byte: an unsigned 8-bit value (R8). -/
abbrev Byte := BitVec 8

/-- A 32-bit word: a register as the Host sees it, and a command word (R9, R60). -/
abbrev Word := BitVec 32

end Sys2Proof
end

