-- ==== Sys2Proof/Syntax.lean ====
section
/-! DEFINITION. The commands of the KFC, one constructor per row of spec/opcode_table.json (R62). -/

namespace Sys2Proof

/-- A command. Every operand but DTC_VIEW's record index is a fixed register (R10, R61). -/
inductive Instr where
  /-- `ENCODE` (R74). -/
  | encode
  /-- `SEND` (R75). -/
  | send
  /-- `READ_RESP` (R77). -/
  | readResp
  /-- `DTC_DECODE` (R86). -/
  | dtcDecode
  /-- `DTC_VIEW idx` (R90): the view of a record of `DTC_TAB`. -/
  | dtcView (idx : Nat)
  /-- `DTC_VIEW.IN` (R91): the view of the record in `VIEW_IN`. -/
  | dtcViewIn
deriving DecidableEq, Repr

end Sys2Proof
end

