-- ==== Sys2Proof/WellFormed.lean ====
section
/-! DEFINITION. Which commands have a command word: the index of DTC_VIEW must fit the 8-bit field IDX (R60). An index
from 26 to 255 is well-formed, and is refused by the command's own operand check (R63, R90). -/

namespace Sys2Proof

/-- The record index fits bits [15:8] of the command word (R60, R61). -/
def idxFits (idx : Nat) : Bool := decide (idx < 256)

/-- A well-formed command: one that some command word encodes. -/
def Instr.wf : Instr → Bool
  | .encode => true
  | .send => true
  | .readResp => true
  | .dtcDecode => true
  | .dtcView idx => idxFits idx
  | .dtcViewIn => true

end Sys2Proof
end

