-- ==== Sys2Proof/Decode.lean ====
section
/-! DEFINITION. The command word: its fields (R60, R61), the decoder (R62, R63) and the encoder. Decoding is the same in
every state of the KFC (R64), and total: a word that is no command is rejected by name. -/

namespace Sys2Proof

/-- Why a word is illegal (R63). The KFC reports every one of them as ILLEGAL_CMD (R93). -/
inductive DecodeError where
  /-- Any of bits [31:17] set. -/
  | reservedBits
  /-- `OP` is `0x00` or `0x06`..`0xFF`. -/
  | illegalOp
  /-- `IDX` or `SRC` not zero in a command that does not use it. -/
  | unusedField
deriving DecidableEq, Repr

/-- `OP = w[7:0]` (R61). -/
def opField (w : Word) : Byte := w.extractLsb' 0 8

/-- `IDX = w[15:8]`, unsigned (R61). -/
def idxField (w : Word) : Byte := w.extractLsb' 8 8

/-- `SRC = w[16]` (R61). -/
def srcField (w : Word) : BitVec 1 := w.extractLsb' 16 1

/-- Bits [31:17], which must be 0 (R60). -/
def reservedField (w : Word) : BitVec 15 := w.extractLsb' 17 15

/-- A command that uses neither `IDX` nor `SRC`: both must be 0 (R60). -/
def plainCommand (idx : Byte) (src : BitVec 1) (i : Instr) : Except DecodeError Instr :=
  if idx = 0 ∧ src = 0 then .ok i else .error .unusedField

/-- `OP = 0x05`: the table record `IDX` with `SRC = 0`, `VIEW_IN` with `SRC = 1` and then `IDX = 0` (R62). -/
def viewCommand (idx : Byte) (src : BitVec 1) : Except DecodeError Instr :=
  if src = 0 then .ok (.dtcView idx.toNat)
  else if idx = 0 then .ok .dtcViewIn
  else .error .unusedField

/-- The opcode map (R62). -/
def decodeFields (op idx : Byte) (src : BitVec 1) : Except DecodeError Instr :=
  if op = 0x01 then plainCommand idx src .encode
  else if op = 0x02 then plainCommand idx src .send
  else if op = 0x03 then plainCommand idx src .readResp
  else if op = 0x04 then plainCommand idx src .dtcDecode
  else if op = 0x05 then viewCommand idx src
  else .error .illegalOp

/-- The command a word stands for, or why it is illegal (R62, R63). -/
def decode (w : Word) : Except DecodeError Instr :=
  if reservedField w ≠ 0 then .error .reservedBits
  else decodeFields (opField w) (idxField w) (srcField w)

/-- The fields of a command word in their places (R60). -/
def packCommand (src : BitVec 1) (idx op : Byte) : Word := (0 : BitVec 15) ++ src ++ idx ++ op

/-- The word of a command (R62). -/
def encode : Instr → Word
  | .encode => packCommand 0 0 0x01
  | .send => packCommand 0 0 0x02
  | .readResp => packCommand 0 0 0x03
  | .dtcDecode => packCommand 0 0 0x04
  | .dtcView idx => packCommand 0 (BitVec.ofNat 8 idx) 0x05
  | .dtcViewIn => packCommand 1 0 0x05

/-- The command word whose lowest `nbits` bits are those of `w`, every bit above them 0. -/
def tableWord (nbits w : Nat) : Word := BitVec.ofNat 32 (w % 2 ^ nbits)

/-- The command the decoder reads from a row of the opcode table; none where it rejects the word. -/
def decodeTableWord (nbits w : Nat) : Option Instr :=
  match decode (tableWord nbits w) with
  | .ok i => some i
  | .error _ => none

end Sys2Proof
end

