-- ==== Sys2Proof/Config.lean ====
section
/-! DEFINITION. The implementation parameters of R5, and the free values: what the spec calls UNSPEC (R8, R35, R36, R53)
and the platform's KWP_BASE. A free value is a constant without a body, so that nothing can be proved of what it is. -/

namespace Sys2Proof.Config

/-- `TX_PLEN_MAX`: the largest request payload (R5, C1). -/
def txPlenMax : Nat := 254

/-- `RESP_CAP`: the capacity of the response payload buffer (R5, C2). -/
def respCap : Nat := 80

/-- `DTC_MAX`: the entries of the DTC table (R5). -/
def dtcMax : Nat := 26

/-- `NEG_CODE`: the negative-response status (R5). -/
def negCode : Byte := 0x7F

/-- The constant register `ID` (R11). -/
def idWord : Word := 0x4B575032

/-- The constant register `CFG` (R12): `TX_PLEN_MAX`, `DTC_MAX` and `RESP_CAP`. -/
def cfgWord : Word :=
  (0 : Byte) ++ BitVec.ofNat 8 txPlenMax ++ BitVec.ofNat 8 dtcMax ++ BitVec.ofNat 8 respCap

/-- A TXBUF byte not written since reset (R35, U1): the byte at a position, under a draw number. Log entry 5 (DESIGN CHOICE). -/
opaque txbufByte : (draw position : Nat) → Byte

/-- An RXBUF byte at an index at or above `RX_PLEN` (R36, U2): the byte at a position, under a draw number that changes
when READ_RESP writes the position. Log entry 6 (DESIGN CHOICE). -/
opaque rxbufByte : (draw position : Nat) → Byte

/-- An RXBUF byte read while `BUSY = 1` (R53, U3). Log entry 7 (DESIGN CHOICE). -/
opaque rxbufBusyByte : (draw position : Nat) → Byte

/-- `KWP_BASE`: the base of the register window in the host's address space (R5, R42, U21). Log entry 10 (DESIGN CHOICE). -/
opaque kwpBase : Nat

/-- The host address of a window offset (R42). -/
def hostAddress (offset : BitVec 12) : Nat := kwpBase + offset.toNat

/-- The window offset of a host address, if it lies in the window of 4096 bytes (R5, R42). -/
def windowOffset (addr : Nat) : Option (BitVec 12) :=
  if kwpBase ≤ addr ∧ addr < kwpBase + 4096 then some (BitVec.ofNat 12 (addr - kwpBase)) else none

/-- The symptom classes of a DTC status byte, in the spec's order (R34, R89). -/
inductive SymptomClass where
  | none
  | aboveThreshold
  | belowThreshold
  | noSignal
  | invalidSignal
  | unknown
deriving DecidableEq, Repr

/-- The default of the parameter `SYMPTOM_CODES` (R5, R89, D16), by nibble value. The spec takes the entries for 0x1, 0x2, 0x4
and 0x8 from general knowledge: log entry 9 (PRESUMED). -/
def defaultSymptomCodes : Vector SymptomClass 16 :=
  #v[.none, .aboveThreshold, .belowThreshold, .unknown, .noSignal, .unknown, .unknown, .unknown,
    .invalidSignal, .unknown, .unknown, .unknown, .unknown, .unknown, .unknown, .unknown]

end Sys2Proof.Config
end

