-- ==== Sys2Proof/Machine/State.lean ====
section
/-! DEFINITION. The state of the KFC as plain data: the registers of R11 to R34, the buffers of R35 to R37, the hidden
Sequencer state of R38, and the ports with what lies beyond them (R41, R49, R50). -/

namespace Sys2Proof.Machine

/-- Why the machine stops with a fault. There is none: no access faults (R58, R101), a command error is a next state
(R92, R93), and a wait without bound is a step in which nothing moves (U13). Log entry 20 (DEDUCED). -/
inductive Fault where
deriving DecidableEq, Repr

/-- Why a step has no meaning. -/
inductive Refusal where
  /-- A command whose meaning is not written. Raised by an arm of `exec` only; none does. Safe: no transition. -/
  | notModelled (mnemonic : String)
  /-- A Host access of 8 or 16 bits, raised by `hostAccess`; the spec says a model refuses it (R44, U11). Safe. -/
  | accessSize
  /-- A Host access at an offset whose two low bits are not 0, raised by `hostAccess`; the spec says a model refuses it
  (R44, U11). Safe. -/
  | accessMisaligned
  /-- A Host access while `rst_n = 0`, raised by `hostAccess`; the spec says a model refuses it (R109, U12). Safe. -/
  | accessInReset
deriving DecidableEq, Repr

/-- The command-error codes 0 to 5 of `STATUS.ERR`; 6 to 15 are never produced (R93, U16). -/
inductive CmdError where
  | none
  | illegalCmd
  | txPlenRange
  | capRange
  | noPayload
  | badIndex
deriving DecidableEq, Repr

/-- The outcome codes 0 to 4 of `STATUS.OUTCOME`; 5 to 7 are never produced (R94, U16). -/
inductive ReadOutcome where
  | none
  | ok
  | negative
  | csumMismatch
  | overflow
deriving DecidableEq, Repr

/-- `seq`: where the Sequencer is within a command (R38). -/
inductive Seq where
  | idle
  | tx
  | rxEcho
  | rxLen
  | rxStat
  | rxPay
  | rxCsum
deriving DecidableEq, Repr

/-- The fields of `CTRL` that hold state (R13). -/
structure Ctrl where
  irqEn : Bool
  negDrain : Bool
deriving DecidableEq, Repr

/-- The fields of `STATUS` that hold state (R14); `BUSY` is `seq != IDLE` (R38). -/
structure Status where
  done : Bool
  werr : Bool
  zlen : Bool
  err : CmdError
  outcome : ReadOutcome
deriving DecidableEq, Repr

/-- The request registers `TX_SID`, `TX_PLEN`, `TX_FLEN`, `TX_CSUM`, `TX_COUNT` (R16 to R20). -/
structure TxRegs where
  sid : Byte
  plen : Byte
  flen : Byte
  csum : Byte
  count : BitVec 9
deriving DecidableEq, Repr

/-- The response registers `RX_ECHO_LEN`, `RX_CAP`, `RX_L`, `RX_STATUS`, `RX_PLEN`, `RX_CSUM_CALC`, `RX_CSUM_RCVD`
(R21 to R27). -/
structure RxRegs where
  echoLen : BitVec 16
  cap : Byte
  len : Byte
  status : Byte
  plen : Byte
  csumCalc : Byte
  csumRcvd : Byte
deriving DecidableEq, Repr

/-- `DTC_INFO` (R28). -/
structure DtcInfo where
  ndecl : Byte
  neff : Byte
  trunc : Bool
  valid : Bool
deriving DecidableEq, Repr

/-- A DTC record: 24 bits, `high_byte` in [7:0], `low_byte` in [15:8], `status` in [23:16] (R29, R37). -/
structure DtcRecord where
  high : Byte
  low : Byte
  status : Byte
deriving DecidableEq, Repr

/-- The record of 24 zero bits (R37). -/
def DtcRecord.zero : DtcRecord := ⟨0, 0, 0⟩

/-- The five characters of a rendered DtcCode (R88). -/
structure DtcCode where
  c0 : Byte
  c1 : Byte
  c2 : Byte
  c3 : Byte
  c4 : Byte
deriving DecidableEq, Repr

/-- The fields of `VIEW_STATUS` (R34). -/
structure StatusView where
  symRaw : BitVec 4
  symClass : Config.SymptomClass
  tnc : Bool
  mat : BitVec 2
  lamp : Bool
deriving DecidableEq, Repr

/-- `VIEW_IN`, `VIEW_REC`, `VIEW_CODE`, `VIEW_ASCII0`, `VIEW_ASCII1`, `VIEW_STATUS` (R29 to R34). -/
structure ViewRegs where
  input : DtcRecord
  record : DtcRecord
  code : BitVec 24
  ascii0 : Word
  ascii1 : Byte
  status : StatusView
deriving DecidableEq, Repr

/-- The hidden Sequencer state (R38). What `cnt` and `txi` hold in each phase is log entry 15 (DESIGN CHOICE); `latR` is the
MODEL's own field, the received checksum from its transfer to the completion: log entry 25 (DESIGN CHOICE). -/
structure Engine where
  seq : Seq
  negDrainL : Bool
  drain : Bool
  acc : Byte
  cnt : BitVec 16
  stored : BitVec 7
  txi : BitVec 9
  latL : Byte
  latSt : Byte
  latR : Byte
deriving DecidableEq, Repr

/-- The parameters a model takes as an argument (R5): `SYMPTOM_CODES`, by nibble value. No step changes it. -/
structure Params where
  symptomCodes : Vector Config.SymptomClass 16
deriving DecidableEq, Repr

/-- The MODEL's own fields: the draw numbers of the free bytes. `txBase` is that of every TXBUF byte not written since
reset, `rx` that of each RXBUF byte, `next` the next fresh one. Log entries 5, 6, 7 and 22 (DESIGN
CHOICE). -/
structure Draws where
  next : Nat
  txBase : Nat
  rx : Vector Nat 80
deriving DecidableEq, Repr

/-- The size of a Host access. Only 32 bits has a meaning (R44). -/
inductive AccessSize where
  | bits8
  | bits16
  | bits32
deriving DecidableEq, Repr

/-- What the outside world does to the KFC. -/
inductive Event where
  /-- A Host read (R42, R44). -/
  | hostRead (size : AccessSize) (addr : BitVec 12)
  /-- A Host write (R42, R44). -/
  | hostWrite (size : AccessSize) (addr : BitVec 12) (data : Word)
  /-- The line delivers a byte, which RxSource appends to the receive stream (R50). -/
  | rxArrive (b : Byte)
  /-- A rising edge of `clk`: whether RxSource offers the head of its stream, and whether TxSink accepts (R49). -/
  | clkEdge (rxValid txReady : Bool)
  /-- The reset pin `rst_n` takes a level (R109). -/
  | rstPin (level : Bool)
deriving DecidableEq, Repr

/-- The ports and what lies beyond them (R41, R49, R50, R109). The block's reset does not touch it. -/
structure Env where
  /-- What the outside does next, first element first. Log entry 1 (DESIGN CHOICE). -/
  pending : List Event
  /-- The receive stream, next byte first (R50). -/
  rxStream : List Byte
  /-- The bytes TxSink has accepted, first byte first (R49). -/
  txSent : List Byte
  /-- The read data the Host has been answered, first answer first (R42). Log entry 16 (DESIGN CHOICE). -/
  readData : List Word
  /-- The level of `rst_n` (R109). -/
  rstN : Bool
  /-- Reset is not yet left: true from `rst_n = 0` to the first clock edge after `rst_n` is 1 again (R109). -/
  held : Bool
deriving DecidableEq, Repr

/-- The bytes of TXBUF and RXBUF that have been written since reset, keyed by window offset (R43, R46). An unlisted offset
holds no value. -/
abbrev Memory := List Host.Cell

/-- The canonical form of a memory: offsets strictly rising. -/
abbrev Memory.wf (m : Memory) : Prop := m.Pairwise (fun x y => x.1 < y.1)

/-- The state of the machine. -/
structure State where
  ctrl : Ctrl
  stat : Status
  tx : TxRegs
  rx : RxRegs
  dtc : DtcInfo
  view : ViewRegs
  mem : Memory
  dtcTab : Vector DtcRecord 26
  eng : Engine
  params : Params
  free : Draws
  env : Env
deriving DecidableEq, Repr

/-- The machine right after reset (R110). The fields that are not the spec's, and the outside world, are log entry 22 (DESIGN
CHOICE). -/
def State.reset : State where
  ctrl := ⟨false, false⟩
  stat := ⟨false, false, false, .none, .none⟩
  tx := ⟨0, 0, 0, 0, 0⟩
  rx := ⟨0, 0x50, 0, 0, 0, 0, 0⟩
  dtc := ⟨0, 0, false, false⟩
  view := ⟨.zero, .zero, 0, 0, 0, ⟨0, .none, false, 0, false⟩⟩
  mem := []
  dtcTab := Vector.replicate 26 .zero
  eng := ⟨.idle, false, false, 0, 0, 0, 0, 0, 0, 0⟩
  params := ⟨Config.defaultSymptomCodes⟩
  free := ⟨1, 0, Vector.replicate 80 0⟩
  env := ⟨[], [], [], [], true, false⟩

end Sys2Proof.Machine
end

