-- ==== Sys2Proof/Machine/Flags.lean ====
section
/-! DEFINITION. The status flags and the words the Host reads them in: CTRL (R13), STATUS (R14), DTC_INFO (R28), the codes
of R93 and R94, and the interrupt output (R98). -/

namespace Sys2Proof.Machine

/-- `STATUS.BUSY`: 1 exactly when `seq != IDLE` (R14, R38). -/
def State.busy (s : State) : Bool := decide (s.eng.seq ≠ .idle)

/-- The Sequencer is in one of READ_RESP's phases (R38). -/
def Seq.reading : Seq → Bool
  | .idle => false
  | .tx => false
  | .rxEcho => true
  | .rxLen => true
  | .rxStat => true
  | .rxPay => true
  | .rxCsum => true

/-- A command completes in this phase: SEND after its last byte, READ_RESP after a negative status or the checksum byte (R75,
R80, R83). -/
def Seq.completes : Seq → Bool
  | .idle => false
  | .tx => true
  | .rxEcho => false
  | .rxLen => false
  | .rxStat => true
  | .rxPay => false
  | .rxCsum => true

/-- The last byte of the command in progress has been transferred (R38: no byte is left of the last phase), so that its next
step is its completion (R6). -/
def State.transfersDone (s : State) : Bool := s.eng.seq.completes && decide (s.eng.cnt = 0)

/-- The level of the `irq` output: `STATUS.DONE & CTRL.IRQ_EN` (R98). In reset it is 0, since `DONE` is (R109, R110). -/
def State.irq (s : State) : Bool := s.stat.done && s.ctrl.irqEn

/-- The code of a command error (R93). -/
def CmdError.code : CmdError → BitVec 4
  | .none => 0
  | .illegalCmd => 1
  | .txPlenRange => 2
  | .capRange => 3
  | .noPayload => 4
  | .badIndex => 5

/-- The code of an outcome (R94). -/
def ReadOutcome.code : ReadOutcome → BitVec 3
  | .none => 0
  | .ok => 1
  | .negative => 2
  | .csumMismatch => 3
  | .overflow => 4

/-- A flag as a bit. -/
def flagBit (b : Bool) : BitVec 1 := BitVec.ofBool b

/-- The word read at `CTRL`: `IRQ_EN` in bit 0, `NEG_DRAIN` in bit 1, all else 0 (R13). -/
def ctrlWord (c : Ctrl) : Word := (0 : BitVec 30) ++ flagBit c.negDrain ++ flagBit c.irqEn

/-- The word read at `STATUS` (R14). -/
def statusWord (busy : Bool) (f : Status) : Word :=
  (0 : BitVec 21) ++ f.outcome.code ++ f.err.code ++ flagBit f.zlen ++ flagBit f.werr ++ flagBit f.done ++ flagBit busy

/-- The word read at `DTC_INFO` (R28). -/
def dtcInfoWord (d : DtcInfo) : Word := (0 : BitVec 14) ++ flagBit d.valid ++ flagBit d.trunc ++ d.neff ++ d.ndecl

/-- The fields of `CTRL` a write keeps (R13). -/
def ctrlOfWord (v : Word) : Ctrl := ⟨v.getLsbD 0, v.getLsbD 1⟩

/-- Bit 2 of a `CTRL` write, `SRST` (R13, R111). -/
def srstBit (v : Word) : Bool := v.getLsbD 2

/-- What a `STATUS` write does: bit 1 clears `DONE`, bit 2 clears `WERR`, every other bit is ignored (R14). -/
def clearStatus (v : Word) (f : Status) : Status :=
  { f with done := f.done && !v.getLsbD 1, werr := f.werr && !v.getLsbD 2 }

end Sys2Proof.Machine
end

