-- ==== Sys2Proof/Machine/Ops.lean ====
section
/-! DEFINITION. The named operations over the buffers and registers that the commands share: the cells of TXBUF and RXBUF,
the submission of a command, its refusal and its completion (R92, R95), the dropped write of the busy lock (R96), and
reset (R109 to R111). The KFC takes no exception and returns from none: a command error is `refuse`, and nothing is saved
(R92, R99). -/

namespace Sys2Proof.Machine

/-! ## The cells of a memory -/

/-- The byte written last at an offset; none where nothing has been written since reset. -/
def Memory.get? : Memory → Nat → Option Byte
  | [], _ => none
  | (k, b) :: m, a => if k = a then some b else Memory.get? m a

/-- A memory with a byte written at an offset, in the canonical form. -/
def Memory.put : Memory → Nat → Byte → Memory
  | [], a, v => [(a, v)]
  | (k, b) :: m, a, v =>
    if a < k then (a, v) :: (k, b) :: m
    else if a = k then (a, v) :: m
    else (k, b) :: Memory.put m a v

/-- The window offset of `TXBUF[0]` (R43). -/
def txbufBase : Nat := 0x100

/-- The window offset of `RXBUF[0]` (R43). -/
def rxbufBase : Nat := 0x200

/-- `TXBUF[i]`: the byte written last, or a free value if none was written since reset (R35, U1). -/
def State.txByte (s : State) (i : Nat) : Byte :=
  match s.mem.get? (txbufBase + i) with
  | some b => b
  | none => Config.txbufByte s.free.txBase i

/-- The draw number of `RXBUF[i]`. -/
def State.rxDraw (s : State) (i : Nat) : Nat := s.free.rx[i]?.getD 0

/-- The free value of `RXBUF[i]` (R36, U2). -/
def State.rxFree (s : State) (i : Nat) : Byte := Config.rxbufByte (s.rxDraw i) i

/-- `RXBUF[i]` as the KFC's own commands read it: the byte READ_RESP stored, or a free value if it stored none since reset. -/
def State.rxCell (s : State) (i : Nat) : Byte :=
  match s.mem.get? (rxbufBase + i) with
  | some b => b
  | none => s.rxFree i

/-- `RXBUF[i]` as the Host reads it: UNSPEC while busy (R53, R118), the payload byte below `RX_PLEN`, UNSPEC at or above it
(R36, R118). -/
def State.rxHostByte (s : State) (i : Nat) : Byte :=
  if s.busy then Config.rxbufBusyByte s.free.next i
  else if i < s.rx.plen.toNat then s.rxCell i
  else s.rxFree i

/-- `TXBUF[i] <- b`. -/
def State.putTx (s : State) (i : Nat) (b : Byte) : State := { s with mem := s.mem.put (txbufBase + i) b }

/-- `RXBUF[i] <- b`, which draws the byte anew. RXBUF has 80 bytes: beyond them there is nothing to write. Log entry 23 (DESIGN CHOICE)
(DESIGN CHOICE). -/
def State.putRx (s : State) (i : Nat) (b : Byte) : State :=
  if i < Config.respCap then
    { s with
      mem := s.mem.put (rxbufBase + i) b
      free := { s.free with rx := s.free.rx.setIfInBounds i s.free.next, next := s.free.next + 1 } }
  else s

/-- `DTC_TAB[k]`. The table has 26 records: beyond them the zero record stands. Log entry 23 (DESIGN CHOICE). -/
def State.dtcRecord (s : State) (k : Nat) : DtcRecord := s.dtcTab[k]?.getD .zero

/-! ## Commands -/

/-- What every submission while not busy does first: `DONE <- 0`, `ERR <- 0` (R92). -/
def State.beginCommand (s : State) : State := { s with stat.done := false, stat.err := .none }

/-- `refuse(code)`, that is `raise CmdError(code)`: `ERR` and `DONE`, and no other state (R92). -/
def State.refuse (s : State) (code : CmdError) : State := { s with stat.err := code, stat.done := true }

/-- `complete()`: `seq <- IDLE`, so `BUSY` is 0, and `DONE <- 1` (R95). -/
def State.complete (s : State) : State := { s with eng.seq := .idle, stat.done := true }

/-- A busy-locked write dropped: `WERR <- 1` and nothing else (R96). -/
def State.dropWrite (s : State) : State := { s with stat.werr := true }

/-- A busy-locked write: dropped while busy, else done (R96). -/
def State.lockedWrite (s : State) (write : State → State) : State := if s.busy then s.dropWrite else write s

/-- A `CMD` write: dropped while busy (R96, R97), else one atomic step that clears `DONE` and `ERR` and runs the
acceptance (R92). -/
def submit (accept : State → State) (s : State) : Host.Outcome State Fault Refusal :=
  .next (s.lockedWrite fun s => accept s.beginCommand)

/-! ## The Sequencer -/

/-- The last byte of the command has been transferred: no byte is left of its phase, and the completion comes next (R6). -/
def State.endTransfers (s : State) : State := { s with eng.cnt := 0 }

/-- The Sequencer goes on to a phase with `n` bytes to transfer. Log entry 15 (DESIGN CHOICE). -/
def State.enter (s : State) (phase : Seq) (n : BitVec 16) : State := { s with eng.seq := phase, eng.cnt := n }

/-- One byte of the current phase has been transferred. -/
def State.countDown (s : State) : State := { s with eng.cnt := s.eng.cnt - 1 }

/-- The byte being transferred is the last of its phase. -/
def State.lastOfPhase (s : State) : Bool := decide (s.eng.cnt.toNat ≤ 1)

/-- A new draw for what is read of RXBUF while busy (U3). Log entry 7 (DESIGN CHOICE). -/
def State.freshDraw (s : State) : State := { s with free.next := s.free.next + 1 }

/-- `acc <- acc +8 b` (R8, R77). -/
def State.accumulate (s : State) (b : Byte) : State := { s with eng.acc := s.eng.acc + b }

/-- One more payload byte has been stored (R77). -/
def State.countStored (s : State) : State := { s with eng.stored := s.eng.stored + 1 }

/-- Drain-only mode is entered (R82). -/
def State.startDrain (s : State) : State := { s with eng.drain := true }

/-- `finish(code, L, st, plen, calc, rcvd)`: the results of a READ_RESP and its completion, one atomic step (R84). -/
def State.finish (s : State) (code : ReadOutcome) (plen summed rcvd : Byte) : State :=
  { s with
    rx.len := s.eng.latL
    rx.status := s.eng.latSt
    rx.plen := plen
    rx.csumCalc := summed
    rx.csumRcvd := rcvd
    stat.zlen := decide (s.eng.latL = 0)
    stat.outcome := code : State }.complete

/-! ## Reset -/

/-- The draws after a reset: every byte of both buffers is UNSPEC anew (R110). -/
def Draws.renew (d : Draws) : Draws := ⟨d.next + 1, d.next, Vector.replicate 80 d.next⟩

/-- Every piece of the KFC's state at its reset value (R110, R111). The receive stream, the bytes on the line and the rest of
the outside world are not the KFC's; the parameters are fixed. Log entry 12 (DEDUCED). -/
def State.resetAll (s : State) : State :=
  { State.reset with params := s.params, free := s.free.renew, env := s.env }

end Sys2Proof.Machine
end

