-- ==== Sys2Proof/Machine/Operands.lean ====
section
/-! DEFINITION. The operands the commands assemble: bytes of words (R46), the request frame and its checksum (R65, R73), the
payload count of a response (R79), the DTC records of a payload (R68), the code and the status view of a record
(R88, R89). -/

namespace Sys2Proof.Machine

/-! ## Bytes and words (R46) -/

/-- Byte `k` of a word: bits `[8k+7 : 8k]`. -/
def byteOf (w : Word) (k : Nat) : Byte := w.extractLsb' (8 * k) 8

/-- The word `{b3, b2, b1, b0}`, little-endian. -/
def packBytes (b0 b1 b2 b3 : Byte) : Word := b3 ++ b2 ++ b1 ++ b0

/-- A record as a 32-bit word: high in [7:0], low in [15:8], status in [23:16] (R29, R37). -/
def recordWord (r : DtcRecord) : Word := packBytes r.high r.low r.status 0

/-- The record of a word; bits [31:24] are ignored (R29, R91). -/
def recordOfWord (w : Word) : DtcRecord := ⟨byteOf w 0, byteOf w 1, byteOf w 2⟩

/-! ## The request frame -/

/-- `req_checksum(sid, p, n) = (1 + n + sid + p[0] + ... + p[n-1]) mod 256` (R73). -/
def reqChecksum (sid : Byte) (p : List Byte) : Byte :=
  BitVec.ofNat 8 (1 + p.length + sid.toNat + (p.map BitVec.toNat).sum)

/-- The request frame `[length][service_id][payload...][checksum]` (R65). -/
def requestFrame (sid : Byte) (p : List Byte) : List Byte :=
  BitVec.ofNat 8 (1 + p.length) :: sid :: (p ++ [reqChecksum sid p])

/-- The request payload: `TXBUF[0 .. PLEN-1]` (R17). -/
def State.txPayload (s : State) : List Byte := (List.range s.tx.plen.toNat).map s.txByte

/-- Byte `i` of the frame SEND transmits, read as it is transmitted (R75, D30): the length, the service id, the payload, the
checksum. -/
def State.frameByte (s : State) (i : Nat) : Byte :=
  if i = 0 then s.tx.flen
  else if i = 1 then s.tx.sid
  else if i < s.tx.plen.toNat + 2 then s.txByte (i - 2)
  else s.tx.csum

/-! ## The response -/

/-- The payload count `P`: 0 for `L = 0`, else `L - 1` (R79). -/
def payloadCount (len : Byte) : Nat := if len = 0 then 0 else len.toNat - 1

/-! ## DTC records of a payload (R68, R86, R87) -/

/-- The declared count `N`: the first payload byte, 0 for an empty payload. -/
def State.dtcDeclared (s : State) : Byte := if s.rx.plen = 0 then 0 else s.rxCell 0

/-- The complete records present: `floor((p - 1) / 3)`. -/
def State.dtcPresent (s : State) : Nat := (s.rx.plen.toNat - 1) / 3

/-- The effective count: `min(N, floor((p - 1) / 3))`, 0 for an empty payload. -/
def State.dtcEffective (s : State) : Nat :=
  if s.rx.plen = 0 then 0 else min s.dtcDeclared.toNat s.dtcPresent

/-- The clamp cut records off, or the payload has no count byte. -/
def State.dtcTruncated (s : State) : Bool :=
  if s.rx.plen = 0 then true else decide (s.dtcDeclared.toNat > s.dtcPresent)

/-- Record `i` of the payload: bytes `1+3i`, `2+3i`, `3+3i`. -/
def State.payloadRecord (s : State) (i : Nat) : DtcRecord :=
  ⟨s.rxCell (1 + 3 * i), s.rxCell (2 + 3 * i), s.rxCell (3 + 3 * i)⟩

/-! ## Rendering a record (R88, R89) -/

/-- The upper-case hexadecimal digit of a 4-bit value, in ASCII. -/
def hexDigit (x : BitVec 4) : Byte :=
  if x.toNat < 10 then BitVec.ofNat 8 (0x30 + x.toNat) else BitVec.ofNat 8 (0x41 + (x.toNat - 10))

/-- The family of a record: `high[7:6]` (R69). -/
def familyOf (high : Byte) : BitVec 2 := high.extractLsb' 6 2

/-- The letter of a family, in ASCII: P, C, B, U. -/
def familyLetter (f : BitVec 2) : Byte :=
  if f = 0 then 0x50 else if f = 1 then 0x43 else if f = 2 then 0x42 else 0x55

/-- `to_code(high, low)` as five ASCII characters (R88). -/
def toCode (high low : Byte) : DtcCode where
  c0 := familyLetter (familyOf high)
  c1 := hexDigit ((0 : BitVec 2) ++ high.extractLsb' 4 2)
  c2 := hexDigit (high.extractLsb' 0 4)
  c3 := hexDigit (low.extractLsb' 4 4)
  c4 := hexDigit (low.extractLsb' 0 4)

/-- The value of `VIEW_CODE`: PREFIX, FAMILY, HIGH6, LOW (R31, R90). -/
def codeWord (high low : Byte) : BitVec 24 :=
  (toCode high low).c0 ++ familyOf high ++ high.extractLsb' 0 6 ++ low

/-- `symptom_class(x) = SYMPTOM_CODES(x)`, where 0x0 is always none and 0xB always unknown (R89, D16). -/
def symptomClass (p : Params) (x : BitVec 4) : Config.SymptomClass :=
  if x = 0x0 then .none else if x = 0xB then .unknown else p.symptomCodes[x.toNat]?.getD .unknown

/-- The number of a symptom class (R34, R89). -/
def symptomCode : Config.SymptomClass → BitVec 3
  | .none => 0
  | .aboveThreshold => 1
  | .belowThreshold => 2
  | .noSignal => 3
  | .invalidSignal => 4
  | .unknown => 5

/-- `describe_status(st)` (R89). -/
def describeStatus (p : Params) (st : Byte) : StatusView where
  symRaw := st.extractLsb' 0 4
  symClass := symptomClass p (st.extractLsb' 0 4)
  tnc := st.getLsbD 4
  mat := st.extractLsb' 5 2
  lamp := st.getLsbD 7

/-- The word read at `VIEW_STATUS` (R34). -/
def statusViewWord (v : StatusView) : Word :=
  (0 : BitVec 20) ++ flagBit v.lamp ++ v.mat ++ flagBit v.tnc ++ (0 : BitVec 1) ++ symptomCode v.symClass ++ v.symRaw

end Sys2Proof.Machine
end

