-- ==== Sys2Proof/Machine/Codec.lean ====
section
/-! DEFINITION. The packet codec: ENCODE (R74), SEND (R75) and the bytes SEND transmits. -/

namespace Sys2Proof.Machine

/-- `TX_FLEN`, `TX_CSUM` and `TX_COUNT` of the request in `TX_SID`, `TX_PLEN` and TXBUF (R74, R75). -/
def State.putRequest (s : State) : State :=
  { s with
    tx.flen := BitVec.ofNat 8 (1 + s.tx.plen.toNat)
    tx.csum := reqChecksum s.tx.sid s.txPayload
    tx.count := BitVec.ofNat 9 (s.tx.plen.toNat + 3) }

/-- The operand check of ENCODE and SEND: `PLEN = 255` is refused (R74, R75, C1). -/
def State.plenTooLong (s : State) : Bool := decide (s.tx.plen.toNat > Config.txPlenMax)

/-- ENCODE at acceptance (R74). -/
def acceptEncode (s : State) : State :=
  if s.plenTooLong then s.refuse .txPlenRange else s.putRequest.complete

/-- SEND's Sequencer state at acceptance: `n + 3` bytes to transmit, the first next (R38, R75). Log entry 15 (DESIGN CHOICE). -/
def State.startSend (s : State) : State :=
  { s.enter .tx (BitVec.ofNat 16 (s.tx.plen.toNat + 3)) with eng.txi := 0 }

/-- SEND at acceptance (R75). -/
def acceptSend (s : State) : State :=
  if s.plenTooLong then s.refuse .txPlenRange else s.putRequest.startSend

/-- `ENCODE` (R74). -/
def execEncode (s : State) : Host.Outcome State Fault Refusal := submit acceptEncode s

/-- `SEND` (R75): its acceptance. The bytes follow one a step, by `txTransfer`. -/
def execSend (s : State) : Host.Outcome State Fault Refusal := submit acceptSend s

/-- The byte SEND offers: `TxByte(b)` (R49, R75). -/
def State.txData (s : State) : Byte := s.frameByte s.eng.txi.toNat

/-- TxSink has accepted the offered byte: it is on the line, and SEND offers the next one. -/
def State.sentByte (s : State) : State :=
  { s with env.txSent := s.env.txSent ++ [s.txData], eng.txi := s.eng.txi + 1 }

/-- The step of SEND in which TxSink accepts a byte (R75). -/
def txTransfer (s : State) : State := s.sentByte.countDown

/-- The completion of SEND, once its last byte has been transferred (R75, R95). -/
def completeSend (s : State) : State := s.complete

end Sys2Proof.Machine
end

