-- ==== Sys2Proof/Machine/Dtc.lean ====
section
/-! DEFINITION. The DTC decoder: DTC_DECODE (R86, R87), DTC_VIEW (R90) and DTC_VIEW.IN (R91). -/

namespace Sys2Proof.Machine

/-- The table and `DTC_INFO` of the current payload: all 26 records cleared, then the effective ones written (R86). -/
def State.putRecords (s : State) : State :=
  { s with
    dtcTab := Vector.ofFn fun k : Fin 26 => if k.val < s.dtcEffective then s.payloadRecord k.val else .zero
    dtc := ⟨s.dtcDeclared, BitVec.ofNat 8 s.dtcEffective, s.dtcTruncated, true⟩ }

/-- DTC_DECODE at acceptance: only the payload of an Ok response is decoded (R86, D13). -/
def acceptDtcDecode (s : State) : State :=
  if s.stat.outcome ≠ .ok then s.refuse .noPayload else s.putRecords.complete

/-- `view(rec)` (R90): the record, its code in both forms, and its status view. -/
def State.putView (s : State) (r : DtcRecord) : State :=
  { s with
    view.record := r
    view.code := codeWord r.high r.low
    view.ascii0 := packBytes (toCode r.high r.low).c0 (toCode r.high r.low).c1 (toCode r.high r.low).c2 (toCode r.high r.low).c3
    view.ascii1 := (toCode r.high r.low).c4
    view.status := describeStatus s.params r.status }

/-- The operand check of DTC_VIEW: no valid decode, or the index is not below `NEFF` (R90). -/
def State.badIndex (s : State) (idx : Nat) : Bool := !s.dtc.valid || decide (s.dtc.neff.toNat ≤ idx)

/-- DTC_VIEW at acceptance (R90). -/
def acceptDtcView (idx : Nat) (s : State) : State :=
  if s.badIndex idx then s.refuse .badIndex else (s.putView (s.dtcRecord idx)).complete

/-- DTC_VIEW.IN at acceptance: no operand check, every record has a view (R91). -/
def acceptDtcViewIn (s : State) : State := (s.putView s.view.input).complete

/-- `DTC_DECODE` (R86). -/
def execDtcDecode (s : State) : Host.Outcome State Fault Refusal := submit acceptDtcDecode s

/-- `DTC_VIEW idx` (R90). -/
def execDtcView (idx : Nat) (s : State) : Host.Outcome State Fault Refusal := submit (acceptDtcView idx) s

/-- `DTC_VIEW.IN` (R91). -/
def execDtcViewIn (s : State) : Host.Outcome State Fault Refusal := submit acceptDtcViewIn s

end Sys2Proof.Machine
end

