-- ==== Sys2Proof/Machine/Response.lean ====
section
/-! DEFINITION. The response reader: READ_RESP (R77) at acceptance, and what it does with each byte it receives
(R78 to R83), and its completion (R84). Everything between two byte transfers is one step, and the completion is a step of its
own (R6). Log entries 4 (DEDUCED) and 25 (DESIGN CHOICE). -/

namespace Sys2Proof.Machine

/-- The length byte is next (R79). -/
def enterLen (s : State) : State := s.enter .rxLen 1

/-- `ECHO` bytes to discard are next; with none, the length byte (R77, R78). -/
def enterEcho (s : State) : State :=
  if s.rx.echoLen = 0 then enterLen s else s.enter .rxEcho s.rx.echoLen

/-- The checksum byte is next (R83). -/
def enterCsum (s : State) : State := s.enter .rxCsum 1

/-- `P` payload bytes are next; with none, the checksum byte (R77, R82). -/
def enterPay (s : State) : State :=
  if payloadCount s.eng.latL = 0 then enterCsum s
  else s.enter .rxPay (BitVec.ofNat 16 (payloadCount s.eng.latL))

/-- What READ_RESP clears and latches at acceptance (R77). -/
def State.startRead (s : State) : State :=
  { s with
    eng.negDrainL := s.ctrl.negDrain
    stat.outcome := .none
    stat.zlen := false
    dtc.valid := false
    eng.acc := 0
    eng.drain := false
    eng.stored := 0 }

/-- READ_RESP at acceptance (R77): `CAP > 80` is refused. -/
def acceptReadResp (s : State) : State :=
  if s.rx.cap.toNat > Config.respCap then s.refuse .capRange else enterEcho s.startRead

/-- `READ_RESP` (R77): its acceptance. The bytes follow one a step, by `rxTransfer`. -/
def execReadResp (s : State) : Host.Outcome State Fault Refusal := submit acceptReadResp s

/-- A byte of the echo: discarded (R78). -/
def takeEcho (s : State) : State := if s.lastOfPhase then enterLen s else s.countDown

/-- The length byte `L` (R79). -/
def takeLen (b : Byte) (s : State) : State := { s.accumulate b with eng.latL := b }.enter .rxStat 1

/-- The status byte (R80, R81): a negative one is the last byte read unless `neg_drain_l` is set. -/
def takeStat (b : Byte) (s : State) : State :=
  let t : State := { s.accumulate b with eng.latSt := b }
  if b = Config.negCode ∧ t.eng.negDrainL = false then t.endTransfers else enterPay t

/-- A payload byte of a positive response: stored while `stored + 1 <= CAP`, else drained (R82). -/
def storePayload (b : Byte) (s : State) : State :=
  if s.eng.stored.toNat + 1 > s.rx.cap.toNat then s.startDrain
  else (s.putRx s.eng.stored.toNat b).countStored

/-- A payload byte: summed, and stored unless the response is negative (R81, R82). -/
def takePay (b : Byte) (s : State) : State :=
  let t : State := s.accumulate b
  let u : State := if t.eng.latSt = Config.negCode then t else storePayload b t
  if u.lastOfPhase then enterCsum u else u.countDown

/-- The outcome of a read whose checksum byte is `r` (R77, R81, R83). -/
def State.csumOutcome (s : State) (r : Byte) : ReadOutcome :=
  if s.eng.latSt = Config.negCode then .negative
  else if s.eng.drain then .overflow
  else if r = s.eng.acc then .ok
  else .csumMismatch

/-- The payload bytes an outcome leaves valid: the stored ones for Ok and ChecksumMismatch, none otherwise (R25, R84). -/
def State.validCount (s : State) : ReadOutcome → Byte
  | .none => 0
  | .ok => s.eng.stored.setWidth 8
  | .negative => 0
  | .csumMismatch => s.eng.stored.setWidth 8
  | .overflow => 0

/-- The checksum byte, the last one of the frame (R83). -/
def takeCsum (r : Byte) (s : State) : State := { s with eng.latR := r : State }.endTransfers

/-- The completion of a read that a negative status byte has ended: no checksum byte was read (R80, R84). -/
def finishShort (s : State) : State := s.finish .negative 0 s.eng.acc 0

/-- The completion of a read to the checksum byte: the outcome and the results (R81, R83, R84). -/
def finishFrame (s : State) : State :=
  s.finish (s.csumOutcome s.eng.latR) (s.validCount (s.csumOutcome s.eng.latR)) s.eng.acc s.eng.latR

/-- The step of READ_RESP in which `RxByte()` returns `b` (R77). In the two states that read nothing it does nothing: no
byte is transferred in them. -/
def takeByte (b : Byte) (s : State) : State :=
  match s.eng.seq with
  | .idle => s
  | .tx => s
  | .rxEcho => takeEcho s
  | .rxLen => takeLen b s
  | .rxStat => takeStat b s
  | .rxPay => takePay b s
  | .rxCsum => takeCsum b s

/-- The same, with a new draw for what is read of RXBUF while busy. -/
def rxTransfer (b : Byte) (s : State) : State := takeByte b s.freshDraw

end Sys2Proof.Machine
end

