-- ==== Sys2Proof/Machine/Dispatch.lean ====
section
/-! DEFINITION. What the submission of a command does (R92): one direct call of a meaning for each command. -/

namespace Sys2Proof.Machine

def exec (i : Instr) (s : State) : Host.Outcome State Fault Refusal :=
  match i with
  | .encode => Sys2Proof.Machine.execEncode s
  | .send => Sys2Proof.Machine.execSend s
  | .readResp => Sys2Proof.Machine.execReadResp s
  | .dtcDecode => Sys2Proof.Machine.execDtcDecode s
  | .dtcView idx => Sys2Proof.Machine.execDtcView idx s
  | .dtcViewIn => Sys2Proof.Machine.execDtcViewIn s

end Sys2Proof.Machine
end

