-- ==== Sys2Proof/Machine/Window.lean ====
section
/-! DEFINITION. The register window: which offset names what (R43), what a Host read returns and what a Host write does
(R44 to R47, R96). -/

namespace Sys2Proof.Machine

/-- The registers of R11 to R34, in the order of their offsets. -/
inductive Reg where
  | id
  | cfg
  | ctrl
  | status
  | cmd
  | txSid
  | txPlen
  | txFlen
  | txCsum
  | txCount
  | rxEchoLen
  | rxCap
  | rxL
  | rxStatus
  | rxPlen
  | rxCsumCalc
  | rxCsumRcvd
  | dtcInfo
  | viewIn
  | viewRec
  | viewCode
  | viewAscii0
  | viewAscii1
  | viewStatus
deriving DecidableEq, Repr

/-- What an offset of the window names: a register, word `j` of a buffer, record `k` of the table, or nothing (R43). -/
inductive Target where
  | reg (r : Reg)
  | txbuf (j : Nat)
  | rxbuf (j : Nat)
  | dtcTab (k : Nat)
  | reserved
deriving DecidableEq, Repr

/-- The register of word `n` of the window (R43). -/
def regTarget (n : Nat) : Target :=
  match n with
  | 0 => .reg .id
  | 1 => .reg .cfg
  | 2 => .reg .ctrl
  | 3 => .reg .status
  | 4 => .reg .cmd
  | 5 => .reg .txSid
  | 6 => .reg .txPlen
  | 7 => .reg .txFlen
  | 8 => .reg .txCsum
  | 9 => .reg .txCount
  | 10 => .reg .rxEchoLen
  | 11 => .reg .rxCap
  | 12 => .reg .rxL
  | 13 => .reg .rxStatus
  | 14 => .reg .rxPlen
  | 15 => .reg .rxCsumCalc
  | 16 => .reg .rxCsumRcvd
  | 17 => .reg .dtcInfo
  | 18 => .reg .viewIn
  | 19 => .reg .viewRec
  | 20 => .reg .viewCode
  | 21 => .reg .viewAscii0
  | 22 => .reg .viewAscii1
  | 23 => .reg .viewStatus
  | _ => .reserved

/-- The map of the window (R43). -/
def targetAt (addr : BitVec 12) : Target :=
  let a := addr.toNat
  if a < 0x100 then regTarget (a / 4)
  else if a < 0x200 then .txbuf ((a - 0x100) / 4)
  else if a < 0x250 then .rxbuf ((a - 0x200) / 4)
  else if a < 0x300 then .reserved
  else if a < 0x368 then .dtcTab ((a - 0x300) / 4)
  else .reserved

/-! ## Reads (R43, R45, R46). No read changes any state (R47). -/

/-- The word a register reads; reserved bits are 0, and a write-only register reads 0 (R9, R11 to R34). -/
def readReg (s : State) : Reg → Word
  | .id => Config.idWord
  | .cfg => Config.cfgWord
  | .ctrl => ctrlWord s.ctrl
  | .status => statusWord s.busy s.stat
  | .cmd => 0
  | .txSid => s.tx.sid.setWidth 32
  | .txPlen => s.tx.plen.setWidth 32
  | .txFlen => s.tx.flen.setWidth 32
  | .txCsum => s.tx.csum.setWidth 32
  | .txCount => s.tx.count.setWidth 32
  | .rxEchoLen => s.rx.echoLen.setWidth 32
  | .rxCap => s.rx.cap.setWidth 32
  | .rxL => s.rx.len.setWidth 32
  | .rxStatus => s.rx.status.setWidth 32
  | .rxPlen => s.rx.plen.setWidth 32
  | .rxCsumCalc => s.rx.csumCalc.setWidth 32
  | .rxCsumRcvd => s.rx.csumRcvd.setWidth 32
  | .dtcInfo => dtcInfoWord s.dtc
  | .viewIn => recordWord s.view.input
  | .viewRec => recordWord s.view.record
  | .viewCode => s.view.code.setWidth 32
  | .viewAscii0 => s.view.ascii0
  | .viewAscii1 => s.view.ascii1.setWidth 32
  | .viewStatus => statusViewWord s.view.status

/-- Word `j` of a byte buffer (R46). -/
def bufferWord (byteAt : Nat → Byte) (j : Nat) : Word :=
  packBytes (byteAt (4 * j)) (byteAt (4 * j + 1)) (byteAt (4 * j + 2)) (byteAt (4 * j + 3))

/-- The word a Host read of an offset returns. -/
def readWord (s : State) (addr : BitVec 12) : Word :=
  match targetAt addr with
  | .reg r => readReg s r
  | .txbuf j => bufferWord s.txByte j
  | .rxbuf j => bufferWord s.rxHostByte j
  | .dtcTab k => recordWord (s.dtcRecord k)
  | .reserved => 0

/-! ## Writes -/

/-- A write to `CTRL`, served while busy: a soft reset if `SRST` is written 1, else the two stored bits (R13, R96, R111). -/
def writeCtrl (v : Word) (s : State) : State :=
  if srstBit v then s.resetAll else { s with ctrl := ctrlOfWord v }

/-- A write to `STATUS`, served while busy (R14, R96). -/
def writeStatus (v : Word) (s : State) : State := { s with stat := clearStatus v s.stat }

/-- A write to `CMD`: the command of the word, or the refusal of an illegal one (R15, R92, R97). -/
def writeCmd (v : Word) (s : State) : Host.Outcome State Fault Refusal :=
  match decode v with
  | .ok i => exec i s
  | .error _ => submit (fun s => s.refuse .illegalCmd) s

/-- `TXBUF[4j + k] <- v[8k+7 : 8k]` for k = 0..3 (R46). -/
def putTxWord (j : Nat) (v : Word) (s : State) : State :=
  (((s.putTx (4 * j) (byteOf v 0)).putTx (4 * j + 1) (byteOf v 1)).putTx (4 * j + 2) (byteOf v 2)).putTx (4 * j + 3) (byteOf v 3)

/-- What a write to a register does: a write to a read-only one is ignored (R45), one to an operand register is
busy-locked (R96). -/
def writeReg (r : Reg) (v : Word) (s : State) : Host.Outcome State Fault Refusal :=
  match r with
  | .id => .next s
  | .cfg => .next s
  | .ctrl => .next (writeCtrl v s)
  | .status => .next (writeStatus v s)
  | .cmd => writeCmd v s
  | .txSid => .next (s.lockedWrite fun s => { s with tx.sid := byteOf v 0 })
  | .txPlen => .next (s.lockedWrite fun s => { s with tx.plen := byteOf v 0 })
  | .txFlen => .next s
  | .txCsum => .next s
  | .txCount => .next s
  | .rxEchoLen => .next (s.lockedWrite fun s => { s with rx.echoLen := v.extractLsb' 0 16 })
  | .rxCap => .next (s.lockedWrite fun s => { s with rx.cap := byteOf v 0 })
  | .rxL => .next s
  | .rxStatus => .next s
  | .rxPlen => .next s
  | .rxCsumCalc => .next s
  | .rxCsumRcvd => .next s
  | .dtcInfo => .next s
  | .viewIn => .next (s.lockedWrite fun s => { s with view.input := recordOfWord v })
  | .viewRec => .next s
  | .viewCode => .next s
  | .viewAscii0 => .next s
  | .viewAscii1 => .next s
  | .viewStatus => .next s

/-- What a Host write of a word to an offset does. -/
def writeWord (addr : BitVec 12) (v : Word) (s : State) : Host.Outcome State Fault Refusal :=
  match targetAt addr with
  | .reg r => writeReg r v s
  | .txbuf j => .next (s.lockedWrite (putTxWord j v))
  | .rxbuf _ => .next s
  | .dtcTab _ => .next s
  | .reserved => .next s

/-- The offset of `CMD` (R15). -/
def cmdOffset : BitVec 12 := 0x010

end Sys2Proof.Machine
end

