-- ==== Sys2Proof/Machine/Ports.lean ====
section
/-! DEFINITION. The ports and the events that reach the KFC through them: Host accesses (R44, R109), the byte-stream ports
(R49, R50) and the reset pin (R109). -/

namespace Sys2Proof.Machine

/-- The KFC is in reset: `rst_n` is 0, or no clock edge has come since it returned to 1 (R109). -/
def State.inReset (s : State) : Bool := !s.env.rstN || s.env.held

/-- `rx_ready`: 1 only inside `RxByte()` (R49), and 0 in reset (R109). -/
def State.rxReady (s : State) : Bool := !s.inReset && s.eng.seq.reading && !s.transfersDone

/-- `tx_valid`: 1 only inside `TxByte()` (R49), and 0 in reset (R109). -/
def State.txValid (s : State) : Bool := !s.inReset && decide (s.eng.seq = .tx) && !s.transfersDone

/-- The KFC leaves reset (R109). -/
def State.leaveReset (s : State) : State := { s with env.held := false }

/-- A Host access: only an aligned 32-bit one while `rst_n = 1` has a meaning (R44, R109). One that comes before the first
clock edge after reset takes effect once the KFC has left reset: log entry 11 (DEDUCED). -/
def hostAccess (size : AccessSize) (addr : BitVec 12) (effect : State → Host.Outcome State Fault Refusal) (s : State) :
    Host.Outcome State Fault Refusal :=
  if s.env.rstN = false then .refused .accessInReset
  else if size ≠ .bits32 then .refused .accessSize
  else if addr.toNat % 4 ≠ 0 then .refused .accessMisaligned
  else effect s.leaveReset

/-- A Host read: the word is answered, and no state of the KFC changes (R47). -/
def answerRead (addr : BitVec 12) (s : State) : State :=
  { s with env.readData := s.env.readData ++ [readWord s addr] }

/-- `RxByte()` at a clock edge: the head of the receive stream, if there is one and RxSource offers it, is consumed. -/
def receiveEdge (rxValid : Bool) (s : State) : State :=
  match rxValid, s.env.rxStream with
  | true, b :: rest => rxTransfer b { s with env.rxStream := rest }
  | true, [] => s
  | false, _ => s

/-- The completion of the command in progress, a step of its own (R6, R84, R95). In the other phases none is due. -/
def completion (s : State) : State :=
  match s.eng.seq with
  | .idle => s
  | .tx => completeSend s
  | .rxEcho => s
  | .rxLen => s
  | .rxStat => finishShort s
  | .rxPay => s
  | .rxCsum => finishFrame s

/-- A rising edge of `clk`: the completion of a command whose bytes have all been transferred (R6; log entry 25, DESIGN
CHOICE), or else a byte moves where both `valid` and `ready` are 1 (R49). In reset nothing does (R109). -/
def clockEdge (rxValid txReady : Bool) (s : State) : State :=
  if s.inReset then (if s.env.rstN then s.leaveReset else s)
  else if s.transfersDone then completion s
  else if s.txValid then (if txReady then txTransfer s.freshDraw else s)
  else if s.rxReady then receiveEdge rxValid s
  else s

/-- The reset pin: at 0 every piece of state takes its reset value, at once (R109, R110). -/
def setRstPin (level : Bool) (s : State) : State :=
  if level then { s with env.rstN := true }
  else { s.resetAll with env.rstN := false, env.held := true }

/-- What an event does. -/
def handle (e : Event) (s : State) : Host.Outcome State Fault Refusal :=
  match e with
  | .hostRead size addr => hostAccess size addr (fun s => .next (answerRead addr s)) s
  | .hostWrite size addr v => hostAccess size addr (writeWord addr v) s
  | .rxArrive b => .next { s with env.rxStream := s.env.rxStream ++ [b] }
  | .clkEdge rxValid txReady => .next (clockEdge rxValid txReady s)
  | .rstPin level => .next (setRstPin level s)

/-- The state in which an event is handled: it has left the list. -/
def State.afterEvent (s : State) (rest : List Event) : State := { s with env.pending := rest }

/-- One step: the next event, or a wait in which nothing moves (R7, U13). Log entries 1 (DESIGN CHOICE) and 3 (DEDUCED). -/
def stepEvent (s : State) : Host.Outcome State Fault Refusal :=
  match s.env.pending with
  | [] => .next s
  | e :: rest => handle e (s.afterEvent rest)

/-- The state whose next event is the Host's write of a word to `CMD`, out of reset. Log entry 2 (DESIGN CHOICE). -/
def State.withCommandWord (s : State) (w : Word) : State :=
  { s with
    env.pending := .hostWrite .bits32 cmdOffset w :: s.env.pending
    env.rstN := true
    env.held := false }

end Sys2Proof.Machine
end

