-- ==== Sys2Proof/Safety.lean ====
section
/-! DEFINITION. The terms claims use: runs of the machine under a list of events, frames, and what holds in every state a
run can reach. -/

namespace Sys2Proof.Machine

/-! ## Runs and frames -/

/-- Clock edges, each with what RxSource and TxSink do at it. -/
def clockEdges (es : List (Bool × Bool)) : List Event := es.map fun e => .clkEdge e.1 e.2

/-- How many of the edges RxSource offers a byte at. -/
def offered (es : List (Bool × Bool)) : Nat := es.countP fun e => e.1

/-- How many of the edges TxSink accepts a byte at. -/
def takenUp (es : List (Bool × Bool)) : Nat := es.countP fun e => e.2

/-- A Host write of a word to `CMD`. -/
def submission (w : Word) : Event := .hostWrite .bits32 cmdOffset w

/-- Every byte of both buffers is as before, and so is every listed cell. -/
def SameBuffers (s t : State) : Prop :=
  (∀ a, t.mem.get? a = s.mem.get? a) ∧ (∀ i, t.txByte i = s.txByte i) ∧ (∀ i, t.rxCell i = s.rxCell i)

/-- A request frame read back by position (R65, R76): service id, payload, checksum; none if it is too short. -/
def readRequest : List Byte → Option (Byte × List Byte × Byte)
  | len :: sid :: tail =>
    match tail[len.toNat - 1]? with
    | some cs => some (sid, tail.take (len.toNat - 1), cs)
    | none => none
  | _ => none

/-- The sum a response's checksum byte is compared with: `(L + st + payload[0] + ... ) mod 256` (R83). -/
def responseChecksum (len st : Byte) (payload : List Byte) : Byte :=
  BitVec.ofNat 8 (len.toNat + st.toNat + (payload.map BitVec.toNat).sum)

/-- The first `n` bytes of RXBUF. -/
def State.rxStored (s : State) (n : Nat) : List Byte := (List.range n).map s.rxCell

/-- The first `n` bytes of RXBUF have been written since reset. -/
def State.rxWritten (s : State) (n : Nat) : Prop := ∀ i < n, (s.mem.get? (rxbufBase + i)).isSome = true

/-- A command word as R63 calls it illegal, by the value of its fields. -/
def illegalWord (w : Nat) : Prop :=
  w % 256 = 0 ∨ 6 ≤ w % 256 ∨ w / 131072 ≠ 0 ∨
    ((1 ≤ w % 256 ∧ w % 256 ≤ 4) ∧ (w / 256 % 256 ≠ 0 ∨ w / 65536 % 2 ≠ 0)) ∨
    (w % 256 = 5 ∧ w / 65536 % 2 = 1 ∧ w / 256 % 256 ≠ 0)

/-- Every register, buffer and hidden value of the KFC is at its reset value (R110). -/
def State.atReset (s : State) : Prop :=
  s.ctrl = State.reset.ctrl ∧ s.stat = State.reset.stat ∧ s.tx = State.reset.tx ∧ s.rx = State.reset.rx ∧
    s.dtc = State.reset.dtc ∧ s.view = State.reset.view ∧ s.mem = [] ∧ s.dtcTab = State.reset.dtcTab ∧
    s.eng = State.reset.eng

/-! ## Invariants -/

/-- The memory is in its canonical form and lists only offsets of TXBUF and RXBUF (R43). -/
def State.memoryOk (s : State) : Prop :=
  s.mem.wf ∧ ∀ c ∈ s.mem, txbufBase ≤ c.1 ∧ c.1 < rxbufBase + Config.respCap

/-- The flags, counts and phases fit together. -/
structure State.ControlOk (s : State) : Prop where
  /-- `DONE = 1` only while not busy (R95, R100). -/
  doneIdle : s.stat.done = true → s.eng.seq = .idle
  /-- A command that runs was accepted (R92, R93). -/
  busyErr : s.eng.seq ≠ .idle → s.stat.err = .none
  /-- A read in progress has no outcome, no `ZLEN`, no valid table and a legal capacity (R77). -/
  reading : s.eng.seq.reading = true →
    s.stat.outcome = .none ∧ s.stat.zlen = false ∧ s.dtc.valid = false ∧ s.rx.cap.toNat ≤ 80 ∧
      s.eng.stored.toNat ≤ s.rx.cap.toNat
  /-- `RX_PLEN` is at most 80 (R25). -/
  plenBound : s.rx.plen.toNat ≤ 80
  /-- `DTC_INFO.NEFF` is at most 26 (R28). -/
  neffBound : s.dtc.neff.toNat ≤ 26
  /-- NegativeResponse and Overflow leave no payload (R84). -/
  discarded : s.stat.outcome = .negative ∨ s.stat.outcome = .overflow → s.rx.plen = 0
  /-- A negative response has the negative status (R94). -/
  negative : s.stat.outcome = .negative → s.rx.status = 0x7F
  /-- `ZLEN` is 1 exactly if the last completed read declared `L = 0` (R14). -/
  zlen : s.stat.outcome ≠ .none → (s.stat.zlen = true ↔ s.rx.len = 0)
  /-- The table is valid only for an Ok response, and holds no more records than declared and present (R86). -/
  table : s.dtc.valid = true →
    s.stat.outcome = .ok ∧ s.dtc.neff.toNat ≤ s.dtc.ndecl.toNat ∧ s.dtc.neff.toNat ≤ (s.rx.plen.toNat - 1) / 3
  /-- While `rst_n` is 0 the KFC is not left out of reset, and until it leaves reset it is at its reset values (R109). -/
  resetHeld : s.env.rstN = false → s.env.held = true
  inReset : s.env.held = true → s.atReset
  /-- A read whose last byte was its status byte got a negative one (R80). -/
  endsNegative : s.eng.seq = .rxStat → s.eng.cnt = 0 → s.eng.latSt = 0x7F

/-- While SEND runs, the request registers hold its frame, and what is on the line is the frame's beginning, all of it once no
byte is left (R52, R56, R75). -/
def State.sendOk (s : State) : Prop :=
  s.eng.seq = .tx →
    s.tx.plen.toNat ≤ 254 ∧ s.tx.flen.toNat = 1 + s.tx.plen.toNat ∧ s.tx.csum = reqChecksum s.tx.sid s.txPayload ∧
      s.tx.count.toNat = s.tx.plen.toNat + 3 ∧
      s.eng.txi.toNat + s.eng.cnt.toNat = s.tx.plen.toNat + 3 ∧
      ∃ before, s.env.txSent = before ++ (requestFrame s.tx.sid s.txPayload).take s.eng.txi.toNat

/-- `n` payload bytes of a positive response have been read: the first `CAP` of them are stored, the rest drained, and
without draining the running checksum is that of what is stored (R82, R83). -/
def State.payloadRead (s : State) (n : Nat) : Prop :=
  s.eng.stored.toNat = min n s.rx.cap.toNat ∧ (s.eng.drain = true ↔ s.rx.cap.toNat < n) ∧
    s.rxWritten s.eng.stored.toNat ∧
    (n ≤ s.rx.cap.toNat → s.eng.acc = responseChecksum s.eng.latL s.eng.latSt (s.rxStored n))

/-- A negative response is being drained (R81). -/
def State.draining (s : State) : Prop := s.eng.negDrainL = true ∧ s.eng.stored = 0

/-- READ_RESP keeps its place in the frame, and the result of a read fits what RXBUF holds (R77 to R84). -/
structure State.ReadOk (s : State) : Prop where
  echo : s.eng.seq = .rxEcho → s.eng.acc = 0 ∧ s.eng.stored = 0 ∧ s.eng.drain = false ∧
    1 ≤ s.eng.cnt.toNat ∧ s.eng.cnt.toNat ≤ s.rx.echoLen.toNat
  len : s.eng.seq = .rxLen → s.eng.acc = 0 ∧ s.eng.stored = 0 ∧ s.eng.drain = false
  stat : s.eng.seq = .rxStat → s.eng.stored = 0 ∧ s.eng.drain = false ∧ (s.eng.cnt ≠ 0 → s.eng.acc = s.eng.latL) ∧
    (s.eng.cnt = 0 → s.eng.negDrainL = false ∧ s.eng.acc = s.eng.latL + 0x7F)
  pay : s.eng.seq = .rxPay → 1 ≤ s.eng.cnt.toNat ∧ s.eng.cnt.toNat ≤ payloadCount s.eng.latL ∧
    (s.eng.latSt = 0x7F → s.draining) ∧
    (s.eng.latSt ≠ 0x7F → s.payloadRead (payloadCount s.eng.latL - s.eng.cnt.toNat))
  csum : s.eng.seq = .rxCsum → (s.eng.latSt = 0x7F → s.draining) ∧
    (s.eng.latSt ≠ 0x7F → s.payloadRead (payloadCount s.eng.latL))
  /-- Ok and ChecksumMismatch keep the response, whose checksum is the accumulated one; they differ in whether the received
  one is equal to it (R83, R84, R94). -/
  result : s.eng.seq.reading = false → s.stat.outcome = .ok ∨ s.stat.outcome = .csumMismatch →
    s.rx.plen.toNat = payloadCount s.rx.len ∧ s.rx.status ≠ 0x7F ∧ s.rxWritten s.rx.plen.toNat ∧
      s.rx.csumCalc = responseChecksum s.rx.len s.rx.status (s.rxStored s.rx.plen.toNat) ∧
      (s.stat.outcome = .ok ↔ s.rx.csumRcvd = s.rx.csumCalc)

end Sys2Proof.Machine
end

