-- ==== Sys2Proof/Certificates/Slice0/Obligations.lean ====
section
/-! DEFINITION. What is claimed of the model, in the order: command words, submission, ENCODE and SEND, READ_RESP, the DTC
commands, the register window, reset and interrupt, invariants, whole-machine rules. -/

open Sys2Proof Sys2Proof.Machine

/-! ## Command words -/

/-- R60 to R62: the word of a well-formed command decodes to that command. -/
def Obligations.DecodeEncodeRoundTrip : Prop := ∀ i : Instr, i.wf = true → decode (encode i) = .ok i

/-- R60 to R63: a word that decodes is the word of the command it decodes to, which is well-formed: every bit is read. -/
def Obligations.EncodeDecodeRoundTrip : Prop :=
  ∀ (w : Word) (i : Instr), decode w = .ok i → i.wf = true ∧ encode i = w

/-- R62: match and mask of each row, and the operation codes that are no command. -/
def Obligations.DecodeFollowsMatchAndMask : Prop :=
  ∀ w : Word,
    (decode w = .ok .encode ↔ w &&& 0xFFFFFFFF = 0x00000001) ∧
    (decode w = .ok .send ↔ w &&& 0xFFFFFFFF = 0x00000002) ∧
    (decode w = .ok .readResp ↔ w &&& 0xFFFFFFFF = 0x00000003) ∧
    (decode w = .ok .dtcDecode ↔ w &&& 0xFFFFFFFF = 0x00000004) ∧
    (∀ idx : Nat, decode w = .ok (.dtcView idx) ↔ w &&& 0xFFFF00FF = 0x00000005 ∧ w.toNat / 256 % 256 = idx) ∧
    (decode w = .ok .dtcViewIn ↔ w &&& 0xFFFFFFFF = 0x00010005) ∧
    (w.toNat % 256 = 0 ∨ 6 ≤ w.toNat % 256 → ∃ e, decode w = .error e)

/-- R63: exactly the illegal words are refused with ILLEGAL_CMD, which changes nothing else; an index from 26 on is
well-formed and refused with BAD_INDEX. `NEFF <= 26` holds in every state a run reaches (`ControlOk`). -/
def Obligations.IllegalWordsRefused : Prop :=
  ∀ (w : Word) (s : State), s.eng.seq = .idle →
    (illegalWord w.toNat → writeCmd w s = .next { s with stat.err := .illegalCmd, stat.done := true }) ∧
    (¬ illegalWord w.toNat → ∃ i, decode w = .ok i) ∧
    (¬ illegalWord w.toNat → w.toNat % 256 = 5 → w.toNat / 65536 % 2 = 0 → 26 ≤ w.toNat / 256 % 256 →
      s.dtc.neff.toNat ≤ 26 → writeCmd w s = .next { s with stat.err := .badIndex, stat.done := true })

/-- Six command words written out from R62, one a command. -/
def Obligations.OpcodeMapWordsDecode : Prop :=
  decode 0x00000001 = .ok .encode ∧ decode 0x00000002 = .ok .send ∧ decode 0x00000003 = .ok .readResp ∧
    decode 0x00000004 = .ok .dtcDecode ∧ decode 0x00000105 = .ok (.dtcView 1) ∧ decode 0x00010005 = .ok .dtcViewIn

/-! ## Steps and submission -/

/-- A step at a Host write of a command word to `CMD` runs that command; the event leaves the list and the KFC is out of
reset (R56, R92; the list of events is the model's: log entries 1 and 2, and so is a Host access that leaves reset: log
entry 11). -/
def Obligations.StepRunsSubmittedCommand : Prop :=
  ∀ (s : State) (w : Word) (i : Instr) (rest : List Event),
    s.env.pending = submission w :: rest → s.env.rstN = true → decode w = .ok i →
      step s = exec i (s.afterEvent rest).leaveReset

/-- R97: while busy, a `CMD` write of any word sets `WERR` and does nothing else; so does every command. -/
def Obligations.BusyCommandDropped : Prop :=
  ∀ s : State, s.eng.seq ≠ .idle →
    (∀ w : Word, writeCmd w s = .next { s with stat.werr := true }) ∧
    (∀ i : Instr, exec i s = .next { s with stat.werr := true })

/-- R92: a submission that is refused changes no state but `ERR` and `DONE`. -/
def Obligations.RefusalChangesOnlyErrAndDone : Prop :=
  ∀ (s t : State) (w : Word), s.eng.seq = .idle → writeCmd w s = .next t → t.stat.err ≠ .none →
    t = { s with stat.err := t.stat.err, stat.done := true }

/-- R93, R97: the code a submission leaves in `ERR` is that of the first check that fails. -/
def Obligations.ErrReportsFirstFailingCheck : Prop :=
  ∀ (s t : State) (w : Word), s.eng.seq = .idle → writeCmd w s = .next t →
    t.stat.err.code.toNat =
      match decode w with
      | .error _ => 1
      | .ok .encode => if s.tx.plen.toNat = 255 then 2 else 0
      | .ok .send => if s.tx.plen.toNat = 255 then 2 else 0
      | .ok .readResp => if 80 < s.rx.cap.toNat then 3 else 0
      | .ok .dtcDecode => if s.stat.outcome.code.toNat = 1 then 0 else 4
      | .ok (.dtcView idx) => if s.dtc.valid = false ∨ s.dtc.neff.toNat ≤ idx then 5 else 0
      | .ok .dtcViewIn => 0

/-- A transfer that its other side holds back changes nothing (R7, R49): the event leaves the list, no more. The events
are the model's (log entry 18). A command whose bytes have all been transferred is `CompletionIsOneStep`. -/
def Obligations.StalledTransferWaits : Prop :=
  ∀ (s : State) (rest : List Event) (rxValid txReady : Bool),
    s.env.pending = .clkEdge rxValid txReady :: rest → s.env.held = false →
      (s.eng.seq = .tx → s.eng.cnt ≠ 0 → txReady = false → step s = .next (s.afterEvent rest)) ∧
      (s.eng.seq.reading = true → s.transfersDone = false → rxValid = false ∨ s.env.rxStream = [] → step s = .next (s.afterEvent rest)) ∧
      (s.eng.seq = .idle → step s = .next (s.afterEvent rest))

/-- R6, R53: a step that transfers a byte leaves the command running, and every flag, every register, the table and the
parameters as they were: the results come with the completion, a step of its own, and a Host access may fall before it
(log entry 25). -/
def Obligations.TransferLeavesResultsToCompletion : Prop :=
  ∀ (s t : State) (rxValid txReady : Bool) (rest : List Event),
    s.env.pending = .clkEdge rxValid txReady :: rest → step s = .next t →
    t.env.rxStream ≠ s.env.rxStream ∨ t.env.txSent ≠ s.env.txSent →
      t.busy = true ∧ t.stat = s.stat ∧ t.ctrl = s.ctrl ∧ t.tx = s.tx ∧ t.rx = s.rx ∧ t.dtc = s.dtc ∧ t.view = s.view ∧
        t.dtcTab = s.dtcTab ∧ t.params = s.params

/-- R6, R84, R95: once the last byte of a command has been transferred its completion is one step, which no transfer has a part
in: SEND only ends, a read ended by its status byte is negative, and a read ended by its checksum byte has the outcome of R81
and R83; the results, `seq` and `DONE` change together, and nothing else does. That the step comes at a clock edge, that
`cnt = 0` says it is due, and the field that holds the checksum byte until then, are the model's (log entries 15 and 25). -/
def Obligations.CompletionIsOneStep : Prop :=
  ∀ (s : State) (rxValid txReady : Bool) (rest : List Event),
    s.env.pending = .clkEdge rxValid txReady :: rest → s.env.rstN = true → s.env.held = false → s.eng.cnt = 0 →
      (s.eng.seq = .tx → step s = .next { s.afterEvent rest with eng.seq := .idle, stat.done := true }) ∧
      (s.eng.seq = .rxStat →
        step s = .next { s.afterEvent rest with
          eng.seq := .idle
          rx := { s.rx with len := s.eng.latL, status := s.eng.latSt, plen := 0, csumCalc := s.eng.acc, csumRcvd := 0 }
          stat := { s.stat with done := true, zlen := decide (s.eng.latL = 0), outcome := .negative } }) ∧
      (s.eng.seq = .rxCsum →
        step s = .next { s.afterEvent rest with
          eng.seq := .idle
          rx := { s.rx with
            len := s.eng.latL, status := s.eng.latSt, csumCalc := s.eng.acc, csumRcvd := s.eng.latR,
            plen := if s.eng.latSt = 0x7F ∨ s.eng.drain = true then 0 else s.eng.stored.setWidth 8 }
          stat := { s.stat with
            done := true, zlen := decide (s.eng.latL = 0),
            outcome :=
              if s.eng.latSt = 0x7F then .negative
              else if s.eng.drain = true then .overflow
              else if s.eng.latR = s.eng.acc then .ok else .csumMismatch } })

/-! ## ENCODE and SEND -/

/-- R73: the request checksum. -/
def Obligations.RequestChecksumFormula : Prop :=
  ∀ (sid : Byte) (p : List Byte), p.length ≤ 254 →
    (reqChecksum sid p).toNat = (1 + p.length + sid.toNat + (p.map BitVec.toNat).sum) % 256 ∧
    (reqChecksum sid p).toNat = ((BitVec.ofNat 8 (1 + p.length)).toNat + sid.toNat + (p.map BitVec.toNat).sum) % 256 ∧
    (reqChecksum sid []).toNat = (1 + sid.toNat) % 256 ∧
    reqChecksum 0xFF [0xFF] = 0x00

/-- R74: ENCODE of a payload of at most 254 bytes writes the length, the checksum and the count, and completes in its
acceptance step; nothing else changes, and no byte moves on either port. -/
def Obligations.EncodeWritesRequestRegisters : Prop :=
  ∀ s : State, s.eng.seq = .idle → s.tx.plen.toNat ≤ 254 →
    ∃ t, exec .encode s = .next t ∧
      t.tx.flen.toNat = 1 + s.tx.plen.toNat ∧
      t.tx.csum.toNat =
        (1 + s.tx.plen.toNat + s.tx.sid.toNat + ((List.range s.tx.plen.toNat).map fun i => (s.txByte i).toNat).sum) % 256 ∧
      t.tx.count.toNat = s.tx.plen.toNat + 3 ∧
      t.tx.sid = s.tx.sid ∧ t.tx.plen = s.tx.plen ∧
      t.stat = { s.stat with done := true, err := .none } ∧ t.busy = false ∧
      t.ctrl = s.ctrl ∧ t.rx = s.rx ∧ t.dtc = s.dtc ∧ t.view = s.view ∧ t.dtcTab = s.dtcTab ∧ t.eng = s.eng ∧
      t.params = s.params ∧ t.free = s.free ∧ t.env = s.env ∧ SameBuffers s t

/-- R74, R75: `PLEN = 255` is refused by both with TX_PLEN_RANGE, and nothing else changes. -/
def Obligations.EncodeAndSendRefuseLength255 : Prop :=
  ∀ s : State, s.eng.seq = .idle → s.tx.plen.toNat = 255 →
    exec .encode s = .next { s with stat.err := .txPlenRange, stat.done := true } ∧
    exec .send s = .next { s with stat.err := .txPlenRange, stat.done := true }

/-- R75: SEND at acceptance: the request registers as ENCODE writes them, `BUSY`, and the length byte offered first; no byte
has moved and nothing else changes (of the hidden state, `seq`, `cnt` and `txi`). -/
def Obligations.SendStartsTransmission : Prop :=
  ∀ s : State, s.eng.seq = .idle → s.tx.plen.toNat ≤ 254 →
    ∃ t, exec .send s = .next t ∧
      t.tx.flen.toNat = 1 + s.tx.plen.toNat ∧ t.tx.csum = reqChecksum s.tx.sid s.txPayload ∧
      t.tx.count.toNat = s.tx.plen.toNat + 3 ∧ t.tx.sid = s.tx.sid ∧ t.tx.plen = s.tx.plen ∧
      t.busy = true ∧ t.eng = { s.eng with seq := .tx, cnt := t.eng.cnt, txi := t.eng.txi } ∧
      t.txData.toNat = 1 + s.tx.plen.toNat ∧ (s.inReset = false → t.txValid = true ∧ t.rxReady = false) ∧
      t.stat = { s.stat with done := false, err := .none } ∧
      t.ctrl = s.ctrl ∧ t.rx = s.rx ∧ t.dtc = s.dtc ∧ t.view = s.view ∧ t.dtcTab = s.dtcTab ∧
      t.params = s.params ∧ t.free = s.free ∧ t.env = s.env ∧ SameBuffers s t

/-- R65, R75: from its `CMD` write, however TxSink delays the bytes, SEND puts exactly the `n + 3` bytes of the request frame
on the line, in order, and completes by the clock edge after the last; it reads nothing of the receive stream and changes
nothing else that a rule reads. The list of events is the model's (log entry 1), so is completion at the next clock edge
(log entry 25), and, where the KFC has not yet left reset, that the `CMD` write takes effect (log entry 11). -/
def Obligations.SendTransmitsRequestFrame : Prop :=
  ∀ (s : State) (es : List (Bool × Bool)) (last : Bool × Bool) (rest : List Event),
    s.eng.seq = .idle → s.env.rstN = true → s.tx.plen.toNat ≤ 254 →
    s.env.pending = submission 0x00000002 :: (clockEdges (es ++ [last]) ++ rest) → s.tx.plen.toNat + 3 ≤ takenUp es →
    ∃ t, Host.Core.run core (2 + es.length) s = .next t ∧
      t.env = { s.env with pending := rest, txSent := s.env.txSent ++ requestFrame s.tx.sid s.txPayload, held := false } ∧
      (requestFrame s.tx.sid s.txPayload).length = s.tx.plen.toNat + 3 ∧
      t.eng.seq = .idle ∧ t.stat = { s.stat with done := true, err := .none } ∧
      t.tx.flen.toNat = 1 + s.tx.plen.toNat ∧ t.tx.csum = reqChecksum s.tx.sid s.txPayload ∧
      t.tx.count.toNat = s.tx.plen.toNat + 3 ∧ t.tx.sid = s.tx.sid ∧ t.tx.plen = s.tx.plen ∧
      t.ctrl = s.ctrl ∧ t.rx = s.rx ∧ t.dtc = s.dtc ∧ t.view = s.view ∧ t.dtcTab = s.dtcTab ∧
      t.params = s.params ∧ SameBuffers s t

/-- R76: for every service id and every payload of at most 254 bytes, the bytes SEND transmits give them back, with the
length and the checksum. The list of events is the model's (log entry 1), and, where the KFC has not yet left reset, so is
that the `CMD` write takes effect (log entry 11). -/
def Obligations.SentFrameRecoversService : Prop :=
  ∀ (s : State) (sid : Byte) (p : List Byte) (es : List (Bool × Bool)) (rest : List Event),
    s.eng.seq = .idle → s.env.rstN = true → p.length ≤ 254 →
    s.tx.sid = sid → s.tx.plen.toNat = p.length → s.txPayload = p →
    s.env.pending = submission 0x00000002 :: (clockEdges es ++ rest) → p.length + 3 ≤ takenUp es →
    ∃ t frame, Host.Core.run core (1 + es.length) s = .next t ∧ t.env.txSent = s.env.txSent ++ frame ∧
      (∃ length tail, frame = length :: tail ∧ length.toNat = p.length + 1) ∧
      readRequest frame = some (sid, p, reqChecksum sid p)

/-! ## READ_RESP -/

/-- R77: READ_RESP at acceptance with a capacity of at most 80: the flags and the running values it clears, the latched
`NEG_DRAIN`, and the first byte it waits for; nothing is read yet and nothing else changes. -/
def Obligations.ReadRespStartsReading : Prop :=
  ∀ s : State, s.eng.seq = .idle → s.rx.cap.toNat ≤ 80 →
    ∃ t, exec .readResp s = .next t ∧
      t.busy = true ∧ t.eng.seq = (if s.rx.echoLen = 0 then .rxLen else .rxEcho) ∧
      (s.rx.echoLen ≠ 0 → t.eng.cnt = s.rx.echoLen) ∧
      t.eng.negDrainL = s.ctrl.negDrain ∧ t.eng.acc = 0 ∧ t.eng.drain = false ∧ t.eng.stored = 0 ∧
      t.eng.txi = s.eng.txi ∧ t.eng.latL = s.eng.latL ∧ t.eng.latSt = s.eng.latSt ∧ t.eng.latR = s.eng.latR ∧
      t.stat = { s.stat with done := false, err := .none, outcome := .none, zlen := false } ∧
      t.dtc = { s.dtc with valid := false } ∧
      (s.inReset = false → t.rxReady = true ∧ t.txValid = false) ∧
      t.ctrl = s.ctrl ∧ t.tx = s.tx ∧ t.rx = s.rx ∧ t.view = s.view ∧ t.dtcTab = s.dtcTab ∧
      t.params = s.params ∧ t.free = s.free ∧ t.env = s.env ∧ SameBuffers s t

/-- R77: `CAP > 80` is refused with CAP_RANGE, and nothing else changes. -/
def Obligations.ReadRespRefusesCapacityAbove80 : Prop :=
  ∀ s : State, s.eng.seq = .idle → 80 < s.rx.cap.toNat →
    exec .readResp s = .next { s with stat.err := .capRange, stat.done := true }

/-- R77 to R79, R82 to R85: a positive response. From its `CMD` write, however RxSource delays the bytes, READ_RESP consumes
the echo, the length, the status, the declared payload and the checksum, and not one byte more; it stores the first `CAP`
payload bytes; its outcome is Overflow if there are more, else Ok or ChecksumMismatch by the sum; nothing else that a rule
reads changes. It completes by the clock edge after the last byte. The list of events is the model's (log entry 1), so is
completion at the next clock edge (log entry 25), and, where the KFC has not yet left reset, that the `CMD` write takes
effect (log entry 11). -/
def Obligations.ReadRespReadsPositiveFrame : Prop :=
  ∀ (s : State) (es : List (Bool × Bool)) (last : Bool × Bool) (rest : List Event) (echo payload tail : List Byte) (len st r : Byte),
    s.eng.seq = .idle → s.env.rstN = true → s.rx.cap.toNat ≤ 80 →
    s.env.pending = submission 0x00000003 :: (clockEdges (es ++ [last]) ++ rest) →
    s.env.rxStream = echo ++ len :: st :: (payload ++ r :: tail) →
    echo.length = s.rx.echoLen.toNat → payload.length = (if len = 0 then 0 else len.toNat - 1) → st ≠ 0x7F →
    echo.length + payload.length + 3 ≤ offered es →
    ∃ t, Host.Core.run core (2 + es.length) s = .next t ∧
      t.env = { s.env with pending := rest, rxStream := tail, held := false } ∧ t.eng.seq = .idle ∧
      t.rx = { s.rx with
        len := len, status := st,
        plen := if s.rx.cap.toNat < payload.length then 0 else BitVec.ofNat 8 payload.length,
        csumCalc := responseChecksum len st payload, csumRcvd := r } ∧
      t.stat = { s.stat with
        done := true, err := .none, zlen := decide (len = 0),
        outcome :=
          if s.rx.cap.toNat < payload.length then .overflow
          else if r = responseChecksum len st payload then .ok else .csumMismatch } ∧
      (∀ i (h : i < payload.length), i < s.rx.cap.toNat → t.rxCell i = payload[i]) ∧
      (∀ i, payload.length ≤ i ∨ s.rx.cap.toNat ≤ i → t.rxCell i = s.rxCell i) ∧
      (∀ i < 256, t.txByte i = s.txByte i) ∧
      t.dtc = { s.dtc with valid := false } ∧
      t.ctrl = s.ctrl ∧ t.tx = s.tx ∧ t.view = s.view ∧ t.dtcTab = s.dtcTab ∧ t.params = s.params

/-- R80, R85: with `NEG_DRAIN = 0` a negative response ends the read at the status byte, whatever the length byte says
(log entries 1, 11 and 25, as above). -/
def Obligations.ReadRespStopsAtNegativeStatus : Prop :=
  ∀ (s : State) (es : List (Bool × Bool)) (last : Bool × Bool) (rest : List Event) (echo tail : List Byte) (len : Byte),
    s.eng.seq = .idle → s.env.rstN = true → s.rx.cap.toNat ≤ 80 → s.ctrl.negDrain = false →
    s.env.pending = submission 0x00000003 :: (clockEdges (es ++ [last]) ++ rest) →
    s.env.rxStream = echo ++ len :: 0x7F :: tail →
    echo.length = s.rx.echoLen.toNat → echo.length + 2 ≤ offered es →
    ∃ t, Host.Core.run core (2 + es.length) s = .next t ∧
      t.env = { s.env with pending := rest, rxStream := tail, held := false } ∧ t.eng.seq = .idle ∧
      t.rx = { s.rx with len := len, status := 0x7F, plen := 0, csumCalc := len + 0x7F, csumRcvd := 0 } ∧
      t.stat = { s.stat with done := true, err := .none, zlen := decide (len = 0), outcome := .negative } ∧
      t.dtc = { s.dtc with valid := false } ∧
      t.ctrl = s.ctrl ∧ t.tx = s.tx ∧ t.view = s.view ∧ t.dtcTab = s.dtcTab ∧ t.params = s.params ∧ SameBuffers s t

/-- R81, R85: with `NEG_DRAIN = 1` a negative response is read to its end, and nothing of it is stored
(log entries 1, 11 and 25, as above). -/
def Obligations.ReadRespDrainsNegativeFrame : Prop :=
  ∀ (s : State) (es : List (Bool × Bool)) (last : Bool × Bool) (rest : List Event) (echo payload tail : List Byte) (len r : Byte),
    s.eng.seq = .idle → s.env.rstN = true → s.rx.cap.toNat ≤ 80 → s.ctrl.negDrain = true →
    s.env.pending = submission 0x00000003 :: (clockEdges (es ++ [last]) ++ rest) →
    s.env.rxStream = echo ++ len :: 0x7F :: (payload ++ r :: tail) →
    echo.length = s.rx.echoLen.toNat → payload.length = (if len = 0 then 0 else len.toNat - 1) →
    echo.length + payload.length + 3 ≤ offered es →
    ∃ t, Host.Core.run core (2 + es.length) s = .next t ∧
      t.env = { s.env with pending := rest, rxStream := tail, held := false } ∧ t.eng.seq = .idle ∧
      t.rx = { s.rx with
        len := len, status := 0x7F, plen := 0, csumCalc := responseChecksum len 0x7F payload, csumRcvd := r } ∧
      t.stat = { s.stat with done := true, err := .none, zlen := decide (len = 0), outcome := .negative } ∧
      t.dtc = { s.dtc with valid := false } ∧
      t.ctrl = s.ctrl ∧ t.tx = s.tx ∧ t.view = s.view ∧ t.dtcTab = s.dtcTab ∧ t.params = s.params ∧ SameBuffers s t

/-! ## DTC_DECODE, DTC_VIEW, DTC_VIEW.IN -/

/-- R86: DTC_DECODE of an Ok response clears the table, writes the effective records and `DTC_INFO`, and completes; nothing
else changes. A state with more than 80 payload bytes is none a run reaches (`ControlOk`). -/
def Obligations.DtcDecodeWritesTable : Prop :=
  ∀ s : State, s.eng.seq = .idle → s.stat.outcome = .ok → s.rx.plen.toNat ≤ 80 →
    ∃ t n mx, exec .dtcDecode s = .next t ∧
      n = (if s.rx.plen.toNat = 0 then 0 else (s.rxCell 0).toNat) ∧ mx = (s.rx.plen.toNat - 1) / 3 ∧
      t.dtc.ndecl.toNat = n ∧ t.dtc.neff.toNat = min n mx ∧ t.dtc.valid = true ∧
      (t.dtc.trunc = true ↔ s.rx.plen.toNat = 0 ∨ mx < n) ∧
      (∀ k < 26, t.dtcRecord k =
        if k < min n mx then ⟨s.rxCell (1 + 3 * k), s.rxCell (2 + 3 * k), s.rxCell (3 + 3 * k)⟩ else ⟨0, 0, 0⟩) ∧
      t.stat = { s.stat with done := true, err := .none } ∧ t.busy = false ∧
      t.ctrl = s.ctrl ∧ t.tx = s.tx ∧ t.rx = s.rx ∧ t.view = s.view ∧ t.eng = s.eng ∧ t.params = s.params ∧
      t.free = s.free ∧ t.env = s.env ∧ SameBuffers s t

/-- R86: without an Ok outcome DTC_DECODE is refused with NO_PAYLOAD, and nothing else changes. -/
def Obligations.DtcDecodeRefusesWithoutOk : Prop :=
  ∀ s : State, s.eng.seq = .idle → s.stat.outcome ≠ .ok →
    exec .dtcDecode s = .next { s with stat.err := .noPayload, stat.done := true }

/-- R87: the count is clamped to the complete records after it, `TRUNC` says whether the clamp cut, an empty payload has no
record and sets it, and no byte of RXBUF at or beyond `RX_PLEN` has any part in the result. -/
def Obligations.DtcDecodeReadsOnlyPayload : Prop :=
  ∀ (s s' t t' : State), s.eng.seq = .idle → s'.eng.seq = .idle → s.stat.outcome = .ok → s'.stat.outcome = .ok →
    s'.rx.plen = s.rx.plen → (∀ i < s.rx.plen.toNat, s'.rxCell i = s.rxCell i) →
    exec .dtcDecode s = .next t → exec .dtcDecode s' = .next t' →
      t'.dtcTab = t.dtcTab ∧ t'.dtc = t.dtc ∧
      (s.rx.plen.toNat ≠ 0 →
        t.dtc.neff.toNat = min (s.rxCell 0).toNat ((s.rx.plen.toNat - 1) / 3) ∧
        (t.dtc.trunc = true ↔ (s.rx.plen.toNat - 1) / 3 < (s.rxCell 0).toNat)) ∧
      (s.rx.plen.toNat = 0 → t.dtc.ndecl = 0 ∧ t.dtc.neff = 0 ∧ t.dtc.trunc = true)

/-- R86: DTC_DECODE may be repeated on the same response with the same result. -/
def Obligations.DtcDecodeRepeats : Prop :=
  ∀ s t : State, s.eng.seq = .idle → s.stat.outcome = .ok → exec .dtcDecode s = .next t → exec .dtcDecode t = .next t

/-- R90: DTC_VIEW of a valid index renders that record of the table, and completes; nothing else changes. -/
def Obligations.DtcViewRendersTableRecord : Prop :=
  ∀ (s : State) (idx : Nat), s.eng.seq = .idle → s.dtc.valid = true → idx < s.dtc.neff.toNat → s.dtc.neff.toNat ≤ 26 →
    ∃ t r, exec (.dtcView idx) s = .next t ∧ s.dtcTab[idx]? = some r ∧
      t.view = { s.view with
        record := r, code := codeWord r.high r.low,
        ascii0 := (toCode r.high r.low).c3 ++ (toCode r.high r.low).c2 ++ (toCode r.high r.low).c1 ++ (toCode r.high r.low).c0,
        ascii1 := (toCode r.high r.low).c4, status := describeStatus s.params r.status } ∧
      t.stat = { s.stat with done := true, err := .none } ∧ t.busy = false ∧
      t.ctrl = s.ctrl ∧ t.tx = s.tx ∧ t.rx = s.rx ∧ t.dtc = s.dtc ∧ t.dtcTab = s.dtcTab ∧ t.eng = s.eng ∧
      t.params = s.params ∧ t.free = s.free ∧ t.env = s.env ∧ SameBuffers s t

/-- R90: no valid decode, or an index not below `NEFF`, is refused with BAD_INDEX, and nothing else changes. -/
def Obligations.DtcViewRefusesBadIndex : Prop :=
  ∀ (s : State) (idx : Nat), s.eng.seq = .idle → s.dtc.valid = false ∨ s.dtc.neff.toNat ≤ idx →
    exec (.dtcView idx) s = .next { s with stat.err := .badIndex, stat.done := true }

/-- R91: DTC_VIEW.IN renders the record in `VIEW_IN`, whatever it is, and completes; it does not read the table, and nothing
else changes. -/
def Obligations.DtcViewInRendersInput : Prop :=
  ∀ s : State, s.eng.seq = .idle →
    ∃ t r, exec .dtcViewIn s = .next t ∧ r = s.view.input ∧
      t.view = { s.view with
        record := r, code := codeWord r.high r.low,
        ascii0 := (toCode r.high r.low).c3 ++ (toCode r.high r.low).c2 ++ (toCode r.high r.low).c1 ++ (toCode r.high r.low).c0,
        ascii1 := (toCode r.high r.low).c4, status := describeStatus s.params r.status } ∧
      t.stat = { s.stat with done := true, err := .none } ∧ t.busy = false ∧
      t.ctrl = s.ctrl ∧ t.tx = s.tx ∧ t.rx = s.rx ∧ t.dtc = s.dtc ∧ t.dtcTab = s.dtcTab ∧ t.eng = s.eng ∧
      t.params = s.params ∧ t.free = s.free ∧ t.env = s.env ∧ SameBuffers s t

/-- R88: the five characters of a code by arithmetic on the two bytes, the 14-bit number, and the source's two examples. The
ASCII codes of the characters are general knowledge, as the spec marks them (log entry 8). -/
def Obligations.CodeCharactersOfRecord : Prop :=
  (∀ high low : Byte,
    (toCode high low).c0.toNat =
      (if high.toNat / 64 = 0 then 0x50 else if high.toNat / 64 = 1 then 0x43 else if high.toNat / 64 = 2 then 0x42 else 0x55) ∧
    (toCode high low).c1.toNat = 0x30 + high.toNat / 16 % 4 ∧
    (toCode high low).c2.toNat = (if high.toNat % 16 < 10 then 0x30 else 0x37) + high.toNat % 16 ∧
    (toCode high low).c3.toNat = (if low.toNat / 16 < 10 then 0x30 else 0x37) + low.toNat / 16 ∧
    (toCode high low).c4.toNat = (if low.toNat % 16 < 10 then 0x30 else 0x37) + low.toNat % 16 ∧
    (codeWord high low).toNat % 16384 = high.toNat % 64 * 256 + low.toNat) ∧
  toCode 0x01 0x32 = ⟨0x50, 0x30, 0x31, 0x33, 0x32⟩ ∧ toCode 0x41 0x00 = ⟨0x43, 0x30, 0x31, 0x30, 0x30⟩

/-- R31, R69: `VIEW_CODE` holds the prefix letter above the two bytes of the record: family, upper 6 bits, lower 8 bits. -/
def Obligations.ViewCodeHoldsRecord : Prop :=
  ∀ high low : Byte,
    (codeWord high low).toNat = (toCode high low).c0.toNat * 65536 + high.toNat * 256 + low.toNat

/-- R88: different records have different codes. -/
def Obligations.CodeDeterminesRecord : Prop :=
  ∀ high low high' low' : Byte, toCode high low = toCode high' low' → high = high' ∧ low = low'

/-- R34, R70: the fields of `VIEW_STATUS` for a status byte, under every `SYMPTOM_CODES`: the raw symptom, test not complete,
maturity and lamp are the byte's own bits; the class is 0 to 5, and bit 7 and the bits from 12 on are 0. -/
def Obligations.StatusViewFields : Prop :=
  ∀ (p : Params) (st : Byte),
    let w := (statusViewWord (describeStatus p st)).toNat
    w % 16 = st.toNat % 16 ∧ w / 16 % 8 ≤ 5 ∧ w / 128 % 2 = 0 ∧ w / 256 % 2 = st.toNat / 16 % 2 ∧
      w / 512 % 4 = st.toNat / 32 % 4 ∧ w / 2048 % 2 = st.toNat / 128 ∧ w / 4096 = 0

/-- R89: the two symptom classes the source fixes and the default of the parameter for the other nibbles, with the source's
two examples, which hold under every `SYMPTOM_CODES`. The default for 0x1, 0x2, 0x4 and 0x8 is the spec's own choice from
general knowledge (D16; log entry 9). -/
def Obligations.SymptomClassesOfNibbles : Prop :=
  (∀ p : Params, statusViewWord (describeStatus p 0x00) = 0x00000000 ∧ statusViewWord (describeStatus p 0x9B) = 0x0000095B) ∧
  (∀ (p : Params) (x : BitVec 4), p.symptomCodes = Config.defaultSymptomCodes →
    (symptomCode (symptomClass p x)).toNat =
      if x.toNat = 0 then 0 else if x.toNat = 1 then 1 else if x.toNat = 2 then 2 else if x.toNat = 4 then 3
      else if x.toNat = 8 then 4 else 5)

/-! ## The register window -/

/-- R47: an aligned 32-bit Host read answers the word of its offset, and no state of the KFC changes. The list of answers is the
model's (log entry 16), and, where the KFC has not yet left reset, so is that the read leaves it (log entry 11). -/
def Obligations.HostReadChangesNothing : Prop :=
  ∀ (s : State) (addr : BitVec 12) (rest : List Event),
    s.env.pending = .hostRead .bits32 addr :: rest → s.env.rstN = true → addr.toNat % 4 = 0 →
    ∃ t, step s = .next t ∧
      t.env = { s.env with pending := rest, held := false, readData := s.env.readData ++ [readWord s addr] } ∧
      { t with env := s.env } = s ∧ ∀ a, readWord t a = readWord s a

/-- R44, R109: an access that is not an aligned 32-bit one, or that comes while `rst_n = 0`, has no meaning. -/
def Obligations.MeaninglessAccessesRefused : Prop :=
  ∀ (s : State) (size : AccessSize) (addr : BitVec 12) (v : Word) (rest : List Event),
    s.env.rstN = false ∨ size ≠ .bits32 ∨ addr.toNat % 4 ≠ 0 →
    (s.env.pending = .hostRead size addr :: rest → ∃ r, step s = .refused r) ∧
    (s.env.pending = .hostWrite size addr v :: rest → ∃ r, step s = .refused r)

/-- R11 to R34: the word a Host reads at each register's offset, field by field; `BUSY` is 1 exactly while a command runs. -/
def Obligations.RegisterWordsHoldFields : Prop :=
  ∀ s : State,
    readWord s 0x000 = 0x4B575032 ∧ readWord s 0x004 = 0x00FE1A50 ∧
    (readWord s 0x008).toNat = s.ctrl.irqEn.toNat + 2 * s.ctrl.negDrain.toNat ∧
    (readWord s 0x00C).toNat =
      (if s.eng.seq = .idle then 0 else 1) + 2 * s.stat.done.toNat + 4 * s.stat.werr.toNat + 8 * s.stat.zlen.toNat +
      16 * (match s.stat.err with
        | .none => 0 | .illegalCmd => 1 | .txPlenRange => 2 | .capRange => 3 | .noPayload => 4 | .badIndex => 5) +
      256 * (match s.stat.outcome with
        | .none => 0 | .ok => 1 | .negative => 2 | .csumMismatch => 3 | .overflow => 4) ∧
    readWord s 0x010 = 0 ∧
    (readWord s 0x014).toNat = s.tx.sid.toNat ∧ (readWord s 0x018).toNat = s.tx.plen.toNat ∧
    (readWord s 0x01C).toNat = s.tx.flen.toNat ∧ (readWord s 0x020).toNat = s.tx.csum.toNat ∧
    (readWord s 0x024).toNat = s.tx.count.toNat ∧
    (readWord s 0x028).toNat = s.rx.echoLen.toNat ∧ (readWord s 0x02C).toNat = s.rx.cap.toNat ∧
    (readWord s 0x030).toNat = s.rx.len.toNat ∧ (readWord s 0x034).toNat = s.rx.status.toNat ∧
    (readWord s 0x038).toNat = s.rx.plen.toNat ∧ (readWord s 0x03C).toNat = s.rx.csumCalc.toNat ∧
    (readWord s 0x040).toNat = s.rx.csumRcvd.toNat ∧
    (readWord s 0x044).toNat =
      s.dtc.ndecl.toNat + 256 * s.dtc.neff.toNat + 65536 * s.dtc.trunc.toNat + 131072 * s.dtc.valid.toNat ∧
    (readWord s 0x048).toNat =
      s.view.input.high.toNat + 256 * s.view.input.low.toNat + 65536 * s.view.input.status.toNat ∧
    (readWord s 0x04C).toNat =
      s.view.record.high.toNat + 256 * s.view.record.low.toNat + 65536 * s.view.record.status.toNat ∧
    (readWord s 0x050).toNat = s.view.code.toNat ∧ readWord s 0x054 = s.view.ascii0 ∧
    (readWord s 0x058).toNat = s.view.ascii1.toNat ∧
    (readWord s 0x05C).toNat =
      s.view.status.symRaw.toNat +
      16 * (match s.view.status.symClass with
        | .none => 0 | .aboveThreshold => 1 | .belowThreshold => 2 | .noSignal => 3 | .invalidSignal => 4 | .unknown => 5) +
      256 * s.view.status.tnc.toNat + 512 * s.view.status.mat.toNat + 2048 * s.view.status.lamp.toNat

/-- R9, R43: every aligned offset of the map names one thing, and no two offsets name the same register, word or record. -/
def Obligations.OffsetsNameDistinctTargets : Prop :=
  ∀ a b : BitVec 12, a.toNat % 4 = 0 → b.toNat % 4 = 0 → targetAt a = targetAt b → targetAt a ≠ .reserved → a = b

/-- R45: reserved offsets and reserved bits read 0; a write to a reserved offset, to reserved bits or to a read-only register
or buffer is ignored. -/
def Obligations.ReservedReadsZeroWritesIgnored : Prop :=
  ∀ (s : State) (a : BitVec 12) (v : Word), a.toNat % 4 = 0 →
    ((0x060 ≤ a.toNat ∧ a.toNat < 0x100) ∨ (0x250 ≤ a.toNat ∧ a.toNat < 0x300) ∨ 0x368 ≤ a.toNat →
      readWord s a = 0 ∧ writeWord a v s = .next s) ∧
    (a.toNat ∈ [0x000, 0x004, 0x01C, 0x020, 0x024, 0x030, 0x034, 0x038, 0x03C, 0x040, 0x044, 0x04C, 0x050, 0x054, 0x058, 0x05C] ∨
      (0x200 ≤ a.toNat ∧ a.toNat < 0x250) ∨ (0x300 ≤ a.toNat ∧ a.toNat < 0x368) → writeWord a v s = .next s) ∧
    (readWord s 0x004 = 0x00FE1A50 ∧ (readWord s 0x008).toNat < 2 ^ 2 ∧ (readWord s 0x00C).toNat < 2 ^ 11 ∧ readWord s 0x010 = 0 ∧
      (∀ b ∈ ([0x014, 0x018, 0x01C, 0x020, 0x02C, 0x030, 0x034, 0x038, 0x03C, 0x040, 0x058] : List (BitVec 12)),
        (readWord s b).toNat < 2 ^ 8) ∧
      (readWord s 0x024).toNat < 2 ^ 9 ∧ (readWord s 0x028).toNat < 2 ^ 16 ∧ (readWord s 0x044).toNat < 2 ^ 18 ∧
      (∀ b ∈ ([0x048, 0x04C, 0x050] : List (BitVec 12)), (readWord s b).toNat < 2 ^ 24) ∧
      (readWord s 0x05C).toNat < 2 ^ 12 ∧ (readWord s 0x05C).toNat / 128 % 2 = 0 ∧
      (0x300 ≤ a.toNat → a.toNat < 0x368 → (readWord s a).toNat < 2 ^ 24)) ∧
    (writeWord 0x008 v s = writeWord 0x008 (v &&& 0x00000007) s ∧
      writeWord 0x00C v s = writeWord 0x00C (v &&& 0x00000006) s ∧
      (∀ b ∈ ([0x014, 0x018, 0x02C] : List (BitVec 12)), writeWord b v s = writeWord b (v &&& 0x000000FF) s) ∧
      writeWord 0x028 v s = writeWord 0x028 (v &&& 0x0000FFFF) s ∧
      writeWord 0x048 v s = writeWord 0x048 (v &&& 0x00FFFFFF) s)

/-- R16, R17, R21, R22, R29, R47: while not busy a write to an operand register stores its bits, which then read back, and
every other offset reads as before. -/
def Obligations.OperandWritesReadBack : Prop :=
  ∀ (s : State) (v : Word), s.eng.seq = .idle →
    ∀ am ∈ ([(0x014, 0x000000FF), (0x018, 0x000000FF), (0x028, 0x0000FFFF), (0x02C, 0x000000FF), (0x048, 0x00FFFFFF)] :
      List (BitVec 12 × Word)),
    ∃ t, writeWord am.1 v s = .next t ∧ readWord t am.1 = v &&& am.2 ∧
      (∀ b : BitVec 12, b.toNat % 4 = 0 → b ≠ am.1 → readWord t b = readWord s b) ∧
      t.stat = s.stat ∧ t.eng = s.eng ∧ t.env = s.env ∧ SameBuffers s t

/-- R13: a `CTRL` write without `SRST`, busy or not, stores `IRQ_EN` and `NEG_DRAIN`, which read back; nothing else changes. -/
def Obligations.ControlWriteStoresEnables : Prop :=
  ∀ (s : State) (v : Word), v.getLsbD 2 = false →
    writeWord 0x008 v s = .next { s with ctrl := ⟨v.getLsbD 0, v.getLsbD 1⟩ } ∧
    ∀ t, writeWord 0x008 v s = .next t →
      readWord t 0x008 = v &&& 0x00000003 ∧
      ∀ b : BitVec 12, b.toNat % 4 = 0 → b ≠ 0x008 → readWord t b = readWord s b

/-- R46: TXBUF is written four bytes a word, little-endian, and every other offset reads as before; the payload bytes of RXBUF
and the records of DTC_TAB, VIEW_IN and VIEW_REC read packed the same way. -/
def Obligations.BuffersPackLittleEndian : Prop :=
  ∀ (s : State),
    (∀ (a : BitVec 12) (v : Word) (j : Nat), s.eng.seq = .idle → j < 64 → a.toNat = 0x100 + 4 * j →
      ∃ t, writeWord a v s = .next t ∧ readWord t a = v ∧
        (∀ k < 4, (t.txByte (4 * j + k)).toNat = v.toNat / 256 ^ k % 256) ∧
        (∀ i, i < 4 * j ∨ 4 * j + 3 < i → t.txByte i = s.txByte i) ∧
        (∀ b : BitVec 12, b.toNat % 4 = 0 → b ≠ a → readWord t b = readWord s b)) ∧
    (∀ (a : BitVec 12) (i : Nat), s.eng.seq = .idle → i < s.rx.plen.toNat → i < 80 → a.toNat = 0x200 + 4 * (i / 4) →
      (readWord s a).toNat / 256 ^ (i % 4) % 256 = (s.rxCell i).toNat) ∧
    (∀ (a : BitVec 12) (k : Nat) (h : k < 26), a.toNat = 0x300 + 4 * k →
      readWord s a = (0 : Byte) ++ s.dtcTab[k].status ++ s.dtcTab[k].low ++ s.dtcTab[k].high) ∧
    readWord s 0x048 = (0 : Byte) ++ s.view.input.status ++ s.view.input.low ++ s.view.input.high ∧
    readWord s 0x04C = (0 : Byte) ++ s.view.record.status ++ s.view.record.low ++ s.view.record.high

/-- R96: while busy, a write to a busy-locked register or to TXBUF is dropped and sets `WERR`; writes to `CTRL` and `STATUS`
are served, busy or not, and so is a read while busy; and `WERR`, once set, is cleared only by a `STATUS` write of bit 2, a
soft reset or `rst_n`. The list of events and that of the answers are the model's (log entries 1 and 16). -/
def Obligations.BusyLockDropsWrites : Prop :=
  (∀ (s : State) (a : BitVec 12) (v : Word), s.eng.seq ≠ .idle → a.toNat % 4 = 0 →
    a.toNat ∈ [0x010, 0x014, 0x018, 0x028, 0x02C, 0x048] ∨ (0x100 ≤ a.toNat ∧ a.toNat < 0x200) →
      writeWord a v s = .next { s with stat.werr := true }) ∧
  (∀ (s : State) (v : Word), v.getLsbD 2 = false →
    writeWord 0x008 v s = .next { s with ctrl := ⟨v.getLsbD 0, v.getLsbD 1⟩ }) ∧
  (∀ (s : State) (v : Word),
    writeWord 0x00C v s =
      .next { s with stat.done := s.stat.done && !v.getLsbD 1, stat.werr := s.stat.werr && !v.getLsbD 2 }) ∧
  (∀ (s : State) (v : Word), v.getLsbD 2 = true → writeWord 0x008 v s = .next s.resetAll) ∧
  (∀ (s : State) (a : BitVec 12) (rest : List Event), s.eng.seq ≠ .idle → s.inReset = false → a.toNat % 4 = 0 →
    s.env.pending = .hostRead .bits32 a :: rest →
      ∃ t, step s = .next t ∧ t.env.readData = s.env.readData ++ [readWord s a]) ∧
  (∀ s t : State, step s = .next t → s.stat.werr = true → t.stat.werr = false →
    ∃ rest, (∃ v : Word, s.env.pending = .hostWrite .bits32 0x00C v :: rest ∧ v.getLsbD 2 = true) ∨
      (∃ v : Word, s.env.pending = .hostWrite .bits32 0x008 v :: rest ∧ v.getLsbD 2 = true) ∨
      s.env.pending = .rstPin false :: rest)

/-- R14: a `STATUS` write clears `DONE` by bit 1 and `WERR` by bit 2; `BUSY`, `ZLEN`, `ERR` and `OUTCOME` read as before, and
so does every other offset. -/
def Obligations.StatusWriteClearsByOne : Prop :=
  ∀ (s : State) (v : Word), ∃ t, writeWord 0x00C v s = .next t ∧
    readWord t 0x00C = readWord s 0x00C &&& ~~~(v &&& 0x00000006) ∧
    (∀ b : BitVec 12, b.toNat % 4 = 0 → b ≠ 0x00C → readWord t b = readWord s b)

/-- R92, R95, R98, R99: writing 1 to `DONE` lowers `irq`; a `CMD` write of any word clears `DONE` at its acceptance, and a
refusal (an illegal word's too) or a completion, at once or by a later step, sets it, so that `irq` is then `IRQ_EN`; while
a command runs on, a clock edge leaves `irq` as it is. -/
def Obligations.InterruptFollowsDone : Prop :=
  (∀ (s t : State) (v : Word), v.getLsbD 1 = true → writeWord 0x00C v s = .next t → t.irq = false) ∧
  (∀ (s t : State) (i : Instr), s.eng.seq = .idle → exec i s = .next t →
    (t.eng.seq = .idle → t.irq = s.ctrl.irqEn) ∧ (t.eng.seq ≠ .idle → t.irq = false)) ∧
  (∀ (s t : State) (w : Word), s.eng.seq = .idle → writeCmd w s = .next t →
    (t.eng.seq = .idle → t.irq = s.ctrl.irqEn) ∧ (t.eng.seq ≠ .idle → t.irq = false)) ∧
  (∀ (s t : State) (rxValid txReady : Bool) (rest : List Event),
    s.env.pending = .clkEdge rxValid txReady :: rest → s.eng.seq ≠ .idle → step s = .next t →
    (t.eng.seq = .idle → t.irq = s.ctrl.irqEn) ∧ (t.eng.seq ≠ .idle → t.irq = s.irq))

/-- R42: a window offset is recovered from its host address, whatever `KWP_BASE` is. -/
def Obligations.WindowOffsetOfHostAddress : Prop :=
  ∀ offset : BitVec 12, Config.windowOffset (Config.hostAddress offset) = some offset

/-! ## Reset -/

/-- R110: the reset values; every byte of both buffers is a free value, and the receive stream is not touched. (Of the
model's own hidden value `latR` nothing is said: log entry 25.) -/
def Obligations.ResetValues : Prop :=
  readWord State.reset 0x000 = 0x4B575032 ∧ readWord State.reset 0x004 = 0x00FE1A50 ∧ readWord State.reset 0x02C = 0x50 ∧
  (∀ a ∈ ([0x008, 0x00C, 0x010, 0x014, 0x018, 0x01C, 0x020, 0x024, 0x028, 0x030, 0x034, 0x038, 0x03C, 0x040, 0x044, 0x048, 0x04C,
    0x050, 0x054, 0x058, 0x05C] : List (BitVec 12)), readWord State.reset a = 0) ∧
  (∀ k < 26, State.reset.dtcTab[k]? = some ⟨0, 0, 0⟩) ∧
  (∀ i < 256, ∃ draw, State.reset.txByte i = Config.txbufByte draw i) ∧
  (∀ i < 80, ∃ draw, State.reset.rxHostByte i = Config.rxbufByte draw i) ∧
  State.reset.eng = ⟨.idle, false, false, 0, 0, 0, 0, 0, 0, State.reset.eng.latR⟩ ∧ State.reset.irq = false ∧
  (∀ s : State, s.resetAll.env.rxStream = s.env.rxStream)

/-- R111: a `CTRL` write with `SRST` puts every piece of state to its reset value in one step, busy or not, with the other
bits of that write not kept; an offered byte is withdrawn; the bytes sent and those consumed stay so. -/
def Obligations.SoftResetRestores : Prop :=
  ∀ (s : State) (v : Word), v.getLsbD 2 = true →
    ∃ t, writeWord 0x008 v s = .next t ∧ t.atReset ∧ t.txValid = false ∧ t.rxReady = false ∧ t.irq = false ∧
      t.env = s.env ∧ t.params = s.params

/-- R109: at `rst_n = 0` every piece of state takes its reset value at once, and no port is active; while it is 0 a clock edge
moves nothing; the first edge after it is 1 leaves reset. -/
def Obligations.ResetPinHoldsReset : Prop :=
  ∀ (s : State) (rxValid txReady : Bool),
    (setRstPin false s).atReset ∧ (setRstPin false s).rxReady = false ∧ (setRstPin false s).txValid = false ∧
    (setRstPin false s).irq = false ∧ (setRstPin false s).env.rxStream = s.env.rxStream ∧
    (setRstPin false s).env.txSent = s.env.txSent ∧
    (s.env.rstN = false → clockEdge rxValid txReady s = s) ∧
    (s.env.rstN = true → s.env.held = true → clockEdge rxValid txReady s = { s with env.held := false })

/-! ## Invariants -/

/-- Every invariant below holds after reset. -/
def Obligations.InvariantsHoldAtReset : Prop :=
  State.reset.memoryOk ∧ State.reset.ControlOk ∧ State.reset.sendOk ∧ State.reset.ReadOk

/-- The memory stays in its canonical form, within TXBUF and RXBUF (R43). -/
def Obligations.StepKeepsMemoryForm : Prop :=
  ∀ s t : State, s.memoryOk → step s = .next t → t.memoryOk

/-- The flags, counts and phases go on fitting together (R14, R25, R28, R38, R84, R86, R94, R95, R100, R109). -/
def Obligations.StepKeepsControl : Prop :=
  ∀ s t : State, s.ControlOk → step s = .next t → t.ControlOk

/-- In every state of a SEND, whatever the Host does meanwhile, the request registers hold the frame and the line carries its
beginning (R52, R56, R75). -/
def Obligations.StepKeepsSentFrame : Prop :=
  ∀ s t : State, s.sendOk → step s = .next t → t.sendOk

/-- In every state of a READ_RESP, whatever the Host does meanwhile, the Sequencer keeps its place and its sum, and a kept
response fits its registers (R52, R77 to R84). -/
def Obligations.StepKeepsReadPlace : Prop :=
  ∀ s t : State, s.ControlOk → s.ReadOk → step s = .next t → t.ReadOk

/-! ## Whole-machine rules -/

/-- R40: `OUTCOME` is written by the completion of a READ_RESP and cleared by the acceptance of one or by a reset; nothing else
changes it. -/
def Obligations.OutcomeChangesOnlyByReadResp : Prop :=
  ∀ s t : State, step s = .next t → t.stat.outcome ≠ s.stat.outcome →
    (s.eng.seq.reading = true ∧ t.eng.seq = .idle) ∨
      (t.stat.outcome = .none ∧ (t.atReset ∨ (s.eng.seq = .idle ∧ t.eng.seq.reading = true)))

/-- R35, R58, R59: a byte of TXBUF changes only by a Host write to its own word while not busy, or by a reset. -/
def Obligations.TxbufChangesOnlyByHostWrite : Prop :=
  ∀ (s t : State) (i : Nat), i < 256 → step s = .next t → t.txByte i ≠ s.txByte i →
    t.atReset ∨ (s.eng.seq = .idle ∧ ∃ (a : BitVec 12) (v : Word) (rest : List Event),
      s.env.pending = .hostWrite .bits32 a v :: rest ∧ a.toNat = 0x100 + 4 * (i / 4))

/-- R49: a received byte is taken only inside READ_RESP, one a step and from the head of the stream, and a byte is sent only
inside SEND, one a step. -/
def Obligations.BytesMoveOnlyInTheirCommands : Prop :=
  ∀ s t : State, step s = .next t →
    (t.env.rxStream = s.env.rxStream ∨ (∃ b, t.env.rxStream = s.env.rxStream ++ [b]) ∨
      (s.eng.seq.reading = true ∧ ∃ b, s.env.rxStream = b :: t.env.rxStream)) ∧
    (t.env.txSent = s.env.txSent ∨ (s.eng.seq = .tx ∧ t.env.txSent = s.env.txSent ++ [s.txData])) ∧
    t.params = s.params

/-- R38: what the hidden values hold while `seq = IDLE` has no part in anything the Host can read, now or after a
command. -/
def Obligations.HiddenStateUnreadWhileIdle : Prop :=
  ∀ (s t : State) (e : Engine) (i : Instr), s.eng.seq = .idle → e.seq = .idle → exec i s = .next t →
    ∃ u, exec i { s with eng := e } = .next u ∧ u.eng.seq = t.eng.seq ∧ (t.eng.seq = .tx → u.txData = t.txData) ∧
      u.env = t.env ∧
      ∀ a, readWord u a = readWord t a ∧ readWord { s with eng := e } a = readWord s a
end

