-- ==== Sys2Proof/Laws/Memory.lean ====
section
/-! SUPPORT. The laws of the memory cells: a read after a write, the canonical form, and which offsets are listed. -/

namespace Sys2Proof.Machine

@[simp] theorem Memory.get?_nil (a : Nat) : Memory.get? [] a = none := rfl

theorem Memory.get?_cons (k : Nat) (b : Byte) (m : Memory) (a : Nat) :
    Memory.get? ((k, b) :: m) a = if k = a then some b else Memory.get? m a := rfl

/-- A read after a write to the same offset gives the byte written. -/
@[simp] theorem Memory.get?_put_same (m : Memory) (a : Nat) (v : Byte) : (m.put a v).get? a = some v := by
  induction m with
  | nil => simp [Memory.put, Memory.get?_cons]
  | cons c m ih =>
    obtain ⟨k, b⟩ := c
    unfold Memory.put
    split
    · simp [Memory.get?_cons]
    · split
      · simp [Memory.get?_cons]
      · rename_i h
        simpa [Memory.get?_cons, Ne.symm h] using ih

/-- A write leaves every other offset alone. -/
theorem Memory.get?_put_other (m : Memory) {a a' : Nat} (v : Byte) (h : a' ≠ a) :
    (m.put a v).get? a' = m.get? a' := by
  induction m with
  | nil => simp [Memory.put, Memory.get?_cons, Ne.symm h]
  | cons c m ih =>
    obtain ⟨k, b⟩ := c
    unfold Memory.put
    split
    · simp [Memory.get?_cons, Ne.symm h]
    · split
      · rename_i hk
        simp [Memory.get?_cons, Ne.symm h, ← hk]
      · simp [Memory.get?_cons, ih]

/-- A write lists the offset written and no other new one. -/
theorem Memory.mem_put (m : Memory) (a : Nat) (v : Byte) {c : Host.Cell} (h : c ∈ m.put a v) :
    c = (a, v) ∨ c ∈ m := by
  induction m with
  | nil => simpa [Memory.put] using h
  | cons d m ih =>
    obtain ⟨k, b⟩ := d
    unfold Memory.put at h
    split at h
    · simpa using h
    · split at h
      · simp only [List.mem_cons] at h ⊢
        tauto
      · simp only [List.mem_cons] at h ⊢
        rcases h with h | h
        · exact .inr (.inl h)
        · rcases ih h with h | h
          · exact .inl h
          · exact .inr (.inr h)

/-- A write keeps the canonical form. -/
theorem Memory.put_wf (m : Memory) (a : Nat) (v : Byte) (h : m.wf) : (m.put a v).wf := by
  induction m with
  | nil => simp [Memory.put, Memory.wf]
  | cons d m ih =>
    obtain ⟨k, b⟩ := d
    have h := List.pairwise_cons.1 h
    unfold Memory.put
    split
    · rename_i hk
      refine List.pairwise_cons.2 ⟨fun c hc => ?_, List.pairwise_cons.2 h⟩
      rcases List.mem_cons.1 hc with rfl | hc
      · exact hk
      · exact Nat.lt_trans hk (h.1 c hc)
    · split
      · rename_i hk
        exact List.pairwise_cons.2 ⟨fun c hc => hk ▸ h.1 c hc, h.2⟩
      · rename_i h1 h2
        refine List.pairwise_cons.2 ⟨fun c hc => ?_, ih h.2⟩
        rcases Memory.mem_put m a v hc with rfl | hc
        · simp only; omega
        · exact h.1 c hc

/-- After reset the memory is in the canonical form. -/
theorem reset_mem_wf : State.reset.mem.wf := List.Pairwise.nil

/-- The buffer operations keep the canonical form. -/
theorem putTx_wf (s : State) (i : Nat) (b : Byte) (h : s.mem.wf) : (s.putTx i b).mem.wf := Memory.put_wf _ _ _ h

theorem putRx_wf (s : State) (i : Nat) (b : Byte) (h : s.mem.wf) : (s.putRx i b).mem.wf := by
  unfold State.putRx
  split
  · exact Memory.put_wf _ _ _ h
  · exact h

theorem putTxWord_wf (j : Nat) (v : Word) (s : State) (h : s.mem.wf) : (putTxWord j v s).mem.wf :=
  putTx_wf _ _ _ (putTx_wf _ _ _ (putTx_wf _ _ _ (putTx_wf _ _ _ h)))

end Sys2Proof.Machine
end

