-- ==== Sys2Proof/Laws/State.lean ====
section
/-! SUPPORT. One lemma for each part of the state and each update: what the update writes there, or that it leaves the part
as it was. Every later proof cites these (by simp) instead of unfolding an update. -/

namespace Sys2Proof.Machine


/-! `beginCommand` -/

@[simp] theorem State.beginCommand_ctrl (s : State) : s.beginCommand.ctrl = s.ctrl := rfl
@[simp] theorem State.beginCommand_stat_done (s : State) : s.beginCommand.stat.done = false := rfl
@[simp] theorem State.beginCommand_stat_werr (s : State) : s.beginCommand.stat.werr = s.stat.werr := rfl
@[simp] theorem State.beginCommand_stat_zlen (s : State) : s.beginCommand.stat.zlen = s.stat.zlen := rfl
@[simp] theorem State.beginCommand_stat_err (s : State) : s.beginCommand.stat.err = .none := rfl
@[simp] theorem State.beginCommand_stat_outcome (s : State) : s.beginCommand.stat.outcome = s.stat.outcome := rfl
@[simp] theorem State.beginCommand_tx (s : State) : s.beginCommand.tx = s.tx := rfl
@[simp] theorem State.beginCommand_rx (s : State) : s.beginCommand.rx = s.rx := rfl
@[simp] theorem State.beginCommand_dtc (s : State) : s.beginCommand.dtc = s.dtc := rfl
@[simp] theorem State.beginCommand_view (s : State) : s.beginCommand.view = s.view := rfl
@[simp] theorem State.beginCommand_mem (s : State) : s.beginCommand.mem = s.mem := rfl
@[simp] theorem State.beginCommand_dtcTab (s : State) : s.beginCommand.dtcTab = s.dtcTab := rfl
@[simp] theorem State.beginCommand_eng (s : State) : s.beginCommand.eng = s.eng := rfl
@[simp] theorem State.beginCommand_params (s : State) : s.beginCommand.params = s.params := rfl
@[simp] theorem State.beginCommand_free (s : State) : s.beginCommand.free = s.free := rfl
@[simp] theorem State.beginCommand_env (s : State) : s.beginCommand.env = s.env := rfl

/-! `refuse` -/

@[simp] theorem State.refuse_ctrl (s : State) (code : CmdError) : (s.refuse code).ctrl = s.ctrl := rfl
@[simp] theorem State.refuse_stat_done (s : State) (code : CmdError) : (s.refuse code).stat.done = true := rfl
@[simp] theorem State.refuse_stat_werr (s : State) (code : CmdError) : (s.refuse code).stat.werr = s.stat.werr := rfl
@[simp] theorem State.refuse_stat_zlen (s : State) (code : CmdError) : (s.refuse code).stat.zlen = s.stat.zlen := rfl
@[simp] theorem State.refuse_stat_err (s : State) (code : CmdError) : (s.refuse code).stat.err = code := rfl
@[simp] theorem State.refuse_stat_outcome (s : State) (code : CmdError) : (s.refuse code).stat.outcome = s.stat.outcome := rfl
@[simp] theorem State.refuse_tx (s : State) (code : CmdError) : (s.refuse code).tx = s.tx := rfl
@[simp] theorem State.refuse_rx (s : State) (code : CmdError) : (s.refuse code).rx = s.rx := rfl
@[simp] theorem State.refuse_dtc (s : State) (code : CmdError) : (s.refuse code).dtc = s.dtc := rfl
@[simp] theorem State.refuse_view (s : State) (code : CmdError) : (s.refuse code).view = s.view := rfl
@[simp] theorem State.refuse_mem (s : State) (code : CmdError) : (s.refuse code).mem = s.mem := rfl
@[simp] theorem State.refuse_dtcTab (s : State) (code : CmdError) : (s.refuse code).dtcTab = s.dtcTab := rfl
@[simp] theorem State.refuse_eng (s : State) (code : CmdError) : (s.refuse code).eng = s.eng := rfl
@[simp] theorem State.refuse_params (s : State) (code : CmdError) : (s.refuse code).params = s.params := rfl
@[simp] theorem State.refuse_free (s : State) (code : CmdError) : (s.refuse code).free = s.free := rfl
@[simp] theorem State.refuse_env (s : State) (code : CmdError) : (s.refuse code).env = s.env := rfl

/-! `complete` -/

@[simp] theorem State.complete_ctrl (s : State) : s.complete.ctrl = s.ctrl := rfl
@[simp] theorem State.complete_stat_done (s : State) : s.complete.stat.done = true := rfl
@[simp] theorem State.complete_stat_werr (s : State) : s.complete.stat.werr = s.stat.werr := rfl
@[simp] theorem State.complete_stat_zlen (s : State) : s.complete.stat.zlen = s.stat.zlen := rfl
@[simp] theorem State.complete_stat_err (s : State) : s.complete.stat.err = s.stat.err := rfl
@[simp] theorem State.complete_stat_outcome (s : State) : s.complete.stat.outcome = s.stat.outcome := rfl
@[simp] theorem State.complete_tx (s : State) : s.complete.tx = s.tx := rfl
@[simp] theorem State.complete_rx (s : State) : s.complete.rx = s.rx := rfl
@[simp] theorem State.complete_dtc (s : State) : s.complete.dtc = s.dtc := rfl
@[simp] theorem State.complete_view (s : State) : s.complete.view = s.view := rfl
@[simp] theorem State.complete_mem (s : State) : s.complete.mem = s.mem := rfl
@[simp] theorem State.complete_dtcTab (s : State) : s.complete.dtcTab = s.dtcTab := rfl
@[simp] theorem State.complete_eng_seq (s : State) : s.complete.eng.seq = .idle := rfl
@[simp] theorem State.complete_eng_negDrainL (s : State) : s.complete.eng.negDrainL = s.eng.negDrainL := rfl
@[simp] theorem State.complete_eng_drain (s : State) : s.complete.eng.drain = s.eng.drain := rfl
@[simp] theorem State.complete_eng_acc (s : State) : s.complete.eng.acc = s.eng.acc := rfl
@[simp] theorem State.complete_eng_cnt (s : State) : s.complete.eng.cnt = s.eng.cnt := rfl
@[simp] theorem State.complete_eng_stored (s : State) : s.complete.eng.stored = s.eng.stored := rfl
@[simp] theorem State.complete_eng_txi (s : State) : s.complete.eng.txi = s.eng.txi := rfl
@[simp] theorem State.complete_eng_latL (s : State) : s.complete.eng.latL = s.eng.latL := rfl
@[simp] theorem State.complete_eng_latSt (s : State) : s.complete.eng.latSt = s.eng.latSt := rfl
@[simp] theorem State.complete_eng_latR (s : State) : s.complete.eng.latR = s.eng.latR := rfl
@[simp] theorem State.complete_params (s : State) : s.complete.params = s.params := rfl
@[simp] theorem State.complete_free (s : State) : s.complete.free = s.free := rfl
@[simp] theorem State.complete_env (s : State) : s.complete.env = s.env := rfl

/-! `dropWrite` -/

@[simp] theorem State.dropWrite_ctrl (s : State) : s.dropWrite.ctrl = s.ctrl := rfl
@[simp] theorem State.dropWrite_stat_done (s : State) : s.dropWrite.stat.done = s.stat.done := rfl
@[simp] theorem State.dropWrite_stat_werr (s : State) : s.dropWrite.stat.werr = true := rfl
@[simp] theorem State.dropWrite_stat_zlen (s : State) : s.dropWrite.stat.zlen = s.stat.zlen := rfl
@[simp] theorem State.dropWrite_stat_err (s : State) : s.dropWrite.stat.err = s.stat.err := rfl
@[simp] theorem State.dropWrite_stat_outcome (s : State) : s.dropWrite.stat.outcome = s.stat.outcome := rfl
@[simp] theorem State.dropWrite_tx (s : State) : s.dropWrite.tx = s.tx := rfl
@[simp] theorem State.dropWrite_rx (s : State) : s.dropWrite.rx = s.rx := rfl
@[simp] theorem State.dropWrite_dtc (s : State) : s.dropWrite.dtc = s.dtc := rfl
@[simp] theorem State.dropWrite_view (s : State) : s.dropWrite.view = s.view := rfl
@[simp] theorem State.dropWrite_mem (s : State) : s.dropWrite.mem = s.mem := rfl
@[simp] theorem State.dropWrite_dtcTab (s : State) : s.dropWrite.dtcTab = s.dtcTab := rfl
@[simp] theorem State.dropWrite_eng (s : State) : s.dropWrite.eng = s.eng := rfl
@[simp] theorem State.dropWrite_params (s : State) : s.dropWrite.params = s.params := rfl
@[simp] theorem State.dropWrite_free (s : State) : s.dropWrite.free = s.free := rfl
@[simp] theorem State.dropWrite_env (s : State) : s.dropWrite.env = s.env := rfl

/-! `endTransfers` -/

@[simp] theorem State.endTransfers_ctrl (s : State) : s.endTransfers.ctrl = s.ctrl := rfl
@[simp] theorem State.endTransfers_stat (s : State) : s.endTransfers.stat = s.stat := rfl
@[simp] theorem State.endTransfers_tx (s : State) : s.endTransfers.tx = s.tx := rfl
@[simp] theorem State.endTransfers_rx (s : State) : s.endTransfers.rx = s.rx := rfl
@[simp] theorem State.endTransfers_dtc (s : State) : s.endTransfers.dtc = s.dtc := rfl
@[simp] theorem State.endTransfers_view (s : State) : s.endTransfers.view = s.view := rfl
@[simp] theorem State.endTransfers_mem (s : State) : s.endTransfers.mem = s.mem := rfl
@[simp] theorem State.endTransfers_dtcTab (s : State) : s.endTransfers.dtcTab = s.dtcTab := rfl
@[simp] theorem State.endTransfers_eng_seq (s : State) : s.endTransfers.eng.seq = s.eng.seq := rfl
@[simp] theorem State.endTransfers_eng_negDrainL (s : State) : s.endTransfers.eng.negDrainL = s.eng.negDrainL := rfl
@[simp] theorem State.endTransfers_eng_drain (s : State) : s.endTransfers.eng.drain = s.eng.drain := rfl
@[simp] theorem State.endTransfers_eng_acc (s : State) : s.endTransfers.eng.acc = s.eng.acc := rfl
@[simp] theorem State.endTransfers_eng_cnt (s : State) : s.endTransfers.eng.cnt = 0 := rfl
@[simp] theorem State.endTransfers_eng_stored (s : State) : s.endTransfers.eng.stored = s.eng.stored := rfl
@[simp] theorem State.endTransfers_eng_txi (s : State) : s.endTransfers.eng.txi = s.eng.txi := rfl
@[simp] theorem State.endTransfers_eng_latL (s : State) : s.endTransfers.eng.latL = s.eng.latL := rfl
@[simp] theorem State.endTransfers_eng_latSt (s : State) : s.endTransfers.eng.latSt = s.eng.latSt := rfl
@[simp] theorem State.endTransfers_eng_latR (s : State) : s.endTransfers.eng.latR = s.eng.latR := rfl
@[simp] theorem State.endTransfers_params (s : State) : s.endTransfers.params = s.params := rfl
@[simp] theorem State.endTransfers_free (s : State) : s.endTransfers.free = s.free := rfl
@[simp] theorem State.endTransfers_env (s : State) : s.endTransfers.env = s.env := rfl

/-! `enter` -/

@[simp] theorem State.enter_ctrl (s : State) (phase : Seq) (n : BitVec 16) : (s.enter phase n).ctrl = s.ctrl := rfl
@[simp] theorem State.enter_stat (s : State) (phase : Seq) (n : BitVec 16) : (s.enter phase n).stat = s.stat := rfl
@[simp] theorem State.enter_tx (s : State) (phase : Seq) (n : BitVec 16) : (s.enter phase n).tx = s.tx := rfl
@[simp] theorem State.enter_rx (s : State) (phase : Seq) (n : BitVec 16) : (s.enter phase n).rx = s.rx := rfl
@[simp] theorem State.enter_dtc (s : State) (phase : Seq) (n : BitVec 16) : (s.enter phase n).dtc = s.dtc := rfl
@[simp] theorem State.enter_view (s : State) (phase : Seq) (n : BitVec 16) : (s.enter phase n).view = s.view := rfl
@[simp] theorem State.enter_mem (s : State) (phase : Seq) (n : BitVec 16) : (s.enter phase n).mem = s.mem := rfl
@[simp] theorem State.enter_dtcTab (s : State) (phase : Seq) (n : BitVec 16) : (s.enter phase n).dtcTab = s.dtcTab := rfl
@[simp] theorem State.enter_eng_seq (s : State) (phase : Seq) (n : BitVec 16) : (s.enter phase n).eng.seq = phase := rfl
@[simp] theorem State.enter_eng_negDrainL (s : State) (phase : Seq) (n : BitVec 16) : (s.enter phase n).eng.negDrainL = s.eng.negDrainL := rfl
@[simp] theorem State.enter_eng_drain (s : State) (phase : Seq) (n : BitVec 16) : (s.enter phase n).eng.drain = s.eng.drain := rfl
@[simp] theorem State.enter_eng_acc (s : State) (phase : Seq) (n : BitVec 16) : (s.enter phase n).eng.acc = s.eng.acc := rfl
@[simp] theorem State.enter_eng_cnt (s : State) (phase : Seq) (n : BitVec 16) : (s.enter phase n).eng.cnt = n := rfl
@[simp] theorem State.enter_eng_stored (s : State) (phase : Seq) (n : BitVec 16) : (s.enter phase n).eng.stored = s.eng.stored := rfl
@[simp] theorem State.enter_eng_txi (s : State) (phase : Seq) (n : BitVec 16) : (s.enter phase n).eng.txi = s.eng.txi := rfl
@[simp] theorem State.enter_eng_latL (s : State) (phase : Seq) (n : BitVec 16) : (s.enter phase n).eng.latL = s.eng.latL := rfl
@[simp] theorem State.enter_eng_latSt (s : State) (phase : Seq) (n : BitVec 16) : (s.enter phase n).eng.latSt = s.eng.latSt := rfl
@[simp] theorem State.enter_eng_latR (s : State) (phase : Seq) (n : BitVec 16) : (s.enter phase n).eng.latR = s.eng.latR := rfl
@[simp] theorem State.enter_params (s : State) (phase : Seq) (n : BitVec 16) : (s.enter phase n).params = s.params := rfl
@[simp] theorem State.enter_free (s : State) (phase : Seq) (n : BitVec 16) : (s.enter phase n).free = s.free := rfl
@[simp] theorem State.enter_env (s : State) (phase : Seq) (n : BitVec 16) : (s.enter phase n).env = s.env := rfl

/-! `countDown` -/

@[simp] theorem State.countDown_ctrl (s : State) : s.countDown.ctrl = s.ctrl := rfl
@[simp] theorem State.countDown_stat (s : State) : s.countDown.stat = s.stat := rfl
@[simp] theorem State.countDown_tx (s : State) : s.countDown.tx = s.tx := rfl
@[simp] theorem State.countDown_rx (s : State) : s.countDown.rx = s.rx := rfl
@[simp] theorem State.countDown_dtc (s : State) : s.countDown.dtc = s.dtc := rfl
@[simp] theorem State.countDown_view (s : State) : s.countDown.view = s.view := rfl
@[simp] theorem State.countDown_mem (s : State) : s.countDown.mem = s.mem := rfl
@[simp] theorem State.countDown_dtcTab (s : State) : s.countDown.dtcTab = s.dtcTab := rfl
@[simp] theorem State.countDown_eng_seq (s : State) : s.countDown.eng.seq = s.eng.seq := rfl
@[simp] theorem State.countDown_eng_negDrainL (s : State) : s.countDown.eng.negDrainL = s.eng.negDrainL := rfl
@[simp] theorem State.countDown_eng_drain (s : State) : s.countDown.eng.drain = s.eng.drain := rfl
@[simp] theorem State.countDown_eng_acc (s : State) : s.countDown.eng.acc = s.eng.acc := rfl
@[simp] theorem State.countDown_eng_cnt (s : State) : s.countDown.eng.cnt = s.eng.cnt - 1 := rfl
@[simp] theorem State.countDown_eng_stored (s : State) : s.countDown.eng.stored = s.eng.stored := rfl
@[simp] theorem State.countDown_eng_txi (s : State) : s.countDown.eng.txi = s.eng.txi := rfl
@[simp] theorem State.countDown_eng_latL (s : State) : s.countDown.eng.latL = s.eng.latL := rfl
@[simp] theorem State.countDown_eng_latSt (s : State) : s.countDown.eng.latSt = s.eng.latSt := rfl
@[simp] theorem State.countDown_eng_latR (s : State) : s.countDown.eng.latR = s.eng.latR := rfl
@[simp] theorem State.countDown_params (s : State) : s.countDown.params = s.params := rfl
@[simp] theorem State.countDown_free (s : State) : s.countDown.free = s.free := rfl
@[simp] theorem State.countDown_env (s : State) : s.countDown.env = s.env := rfl

/-! `freshDraw` -/

@[simp] theorem State.freshDraw_ctrl (s : State) : s.freshDraw.ctrl = s.ctrl := rfl
@[simp] theorem State.freshDraw_stat (s : State) : s.freshDraw.stat = s.stat := rfl
@[simp] theorem State.freshDraw_tx (s : State) : s.freshDraw.tx = s.tx := rfl
@[simp] theorem State.freshDraw_rx (s : State) : s.freshDraw.rx = s.rx := rfl
@[simp] theorem State.freshDraw_dtc (s : State) : s.freshDraw.dtc = s.dtc := rfl
@[simp] theorem State.freshDraw_view (s : State) : s.freshDraw.view = s.view := rfl
@[simp] theorem State.freshDraw_mem (s : State) : s.freshDraw.mem = s.mem := rfl
@[simp] theorem State.freshDraw_dtcTab (s : State) : s.freshDraw.dtcTab = s.dtcTab := rfl
@[simp] theorem State.freshDraw_eng (s : State) : s.freshDraw.eng = s.eng := rfl
@[simp] theorem State.freshDraw_params (s : State) : s.freshDraw.params = s.params := rfl
@[simp] theorem State.freshDraw_free_next (s : State) : s.freshDraw.free.next = s.free.next + 1 := rfl
@[simp] theorem State.freshDraw_free_txBase (s : State) : s.freshDraw.free.txBase = s.free.txBase := rfl
@[simp] theorem State.freshDraw_free_rx (s : State) : s.freshDraw.free.rx = s.free.rx := rfl
@[simp] theorem State.freshDraw_env (s : State) : s.freshDraw.env = s.env := rfl

/-! `accumulate` -/

@[simp] theorem State.accumulate_ctrl (s : State) (b : Byte) : (s.accumulate b).ctrl = s.ctrl := rfl
@[simp] theorem State.accumulate_stat (s : State) (b : Byte) : (s.accumulate b).stat = s.stat := rfl
@[simp] theorem State.accumulate_tx (s : State) (b : Byte) : (s.accumulate b).tx = s.tx := rfl
@[simp] theorem State.accumulate_rx (s : State) (b : Byte) : (s.accumulate b).rx = s.rx := rfl
@[simp] theorem State.accumulate_dtc (s : State) (b : Byte) : (s.accumulate b).dtc = s.dtc := rfl
@[simp] theorem State.accumulate_view (s : State) (b : Byte) : (s.accumulate b).view = s.view := rfl
@[simp] theorem State.accumulate_mem (s : State) (b : Byte) : (s.accumulate b).mem = s.mem := rfl
@[simp] theorem State.accumulate_dtcTab (s : State) (b : Byte) : (s.accumulate b).dtcTab = s.dtcTab := rfl
@[simp] theorem State.accumulate_eng_seq (s : State) (b : Byte) : (s.accumulate b).eng.seq = s.eng.seq := rfl
@[simp] theorem State.accumulate_eng_negDrainL (s : State) (b : Byte) : (s.accumulate b).eng.negDrainL = s.eng.negDrainL := rfl
@[simp] theorem State.accumulate_eng_drain (s : State) (b : Byte) : (s.accumulate b).eng.drain = s.eng.drain := rfl
@[simp] theorem State.accumulate_eng_acc (s : State) (b : Byte) : (s.accumulate b).eng.acc = s.eng.acc + b := rfl
@[simp] theorem State.accumulate_eng_cnt (s : State) (b : Byte) : (s.accumulate b).eng.cnt = s.eng.cnt := rfl
@[simp] theorem State.accumulate_eng_stored (s : State) (b : Byte) : (s.accumulate b).eng.stored = s.eng.stored := rfl
@[simp] theorem State.accumulate_eng_txi (s : State) (b : Byte) : (s.accumulate b).eng.txi = s.eng.txi := rfl
@[simp] theorem State.accumulate_eng_latL (s : State) (b : Byte) : (s.accumulate b).eng.latL = s.eng.latL := rfl
@[simp] theorem State.accumulate_eng_latSt (s : State) (b : Byte) : (s.accumulate b).eng.latSt = s.eng.latSt := rfl
@[simp] theorem State.accumulate_eng_latR (s : State) (b : Byte) : (s.accumulate b).eng.latR = s.eng.latR := rfl
@[simp] theorem State.accumulate_params (s : State) (b : Byte) : (s.accumulate b).params = s.params := rfl
@[simp] theorem State.accumulate_free (s : State) (b : Byte) : (s.accumulate b).free = s.free := rfl
@[simp] theorem State.accumulate_env (s : State) (b : Byte) : (s.accumulate b).env = s.env := rfl

/-! `countStored` -/

@[simp] theorem State.countStored_ctrl (s : State) : s.countStored.ctrl = s.ctrl := rfl
@[simp] theorem State.countStored_stat (s : State) : s.countStored.stat = s.stat := rfl
@[simp] theorem State.countStored_tx (s : State) : s.countStored.tx = s.tx := rfl
@[simp] theorem State.countStored_rx (s : State) : s.countStored.rx = s.rx := rfl
@[simp] theorem State.countStored_dtc (s : State) : s.countStored.dtc = s.dtc := rfl
@[simp] theorem State.countStored_view (s : State) : s.countStored.view = s.view := rfl
@[simp] theorem State.countStored_mem (s : State) : s.countStored.mem = s.mem := rfl
@[simp] theorem State.countStored_dtcTab (s : State) : s.countStored.dtcTab = s.dtcTab := rfl
@[simp] theorem State.countStored_eng_seq (s : State) : s.countStored.eng.seq = s.eng.seq := rfl
@[simp] theorem State.countStored_eng_negDrainL (s : State) : s.countStored.eng.negDrainL = s.eng.negDrainL := rfl
@[simp] theorem State.countStored_eng_drain (s : State) : s.countStored.eng.drain = s.eng.drain := rfl
@[simp] theorem State.countStored_eng_acc (s : State) : s.countStored.eng.acc = s.eng.acc := rfl
@[simp] theorem State.countStored_eng_cnt (s : State) : s.countStored.eng.cnt = s.eng.cnt := rfl
@[simp] theorem State.countStored_eng_stored (s : State) : s.countStored.eng.stored = s.eng.stored + 1 := rfl
@[simp] theorem State.countStored_eng_txi (s : State) : s.countStored.eng.txi = s.eng.txi := rfl
@[simp] theorem State.countStored_eng_latL (s : State) : s.countStored.eng.latL = s.eng.latL := rfl
@[simp] theorem State.countStored_eng_latSt (s : State) : s.countStored.eng.latSt = s.eng.latSt := rfl
@[simp] theorem State.countStored_eng_latR (s : State) : s.countStored.eng.latR = s.eng.latR := rfl
@[simp] theorem State.countStored_params (s : State) : s.countStored.params = s.params := rfl
@[simp] theorem State.countStored_free (s : State) : s.countStored.free = s.free := rfl
@[simp] theorem State.countStored_env (s : State) : s.countStored.env = s.env := rfl

/-! `startDrain` -/

@[simp] theorem State.startDrain_ctrl (s : State) : s.startDrain.ctrl = s.ctrl := rfl
@[simp] theorem State.startDrain_stat (s : State) : s.startDrain.stat = s.stat := rfl
@[simp] theorem State.startDrain_tx (s : State) : s.startDrain.tx = s.tx := rfl
@[simp] theorem State.startDrain_rx (s : State) : s.startDrain.rx = s.rx := rfl
@[simp] theorem State.startDrain_dtc (s : State) : s.startDrain.dtc = s.dtc := rfl
@[simp] theorem State.startDrain_view (s : State) : s.startDrain.view = s.view := rfl
@[simp] theorem State.startDrain_mem (s : State) : s.startDrain.mem = s.mem := rfl
@[simp] theorem State.startDrain_dtcTab (s : State) : s.startDrain.dtcTab = s.dtcTab := rfl
@[simp] theorem State.startDrain_eng_seq (s : State) : s.startDrain.eng.seq = s.eng.seq := rfl
@[simp] theorem State.startDrain_eng_negDrainL (s : State) : s.startDrain.eng.negDrainL = s.eng.negDrainL := rfl
@[simp] theorem State.startDrain_eng_drain (s : State) : s.startDrain.eng.drain = true := rfl
@[simp] theorem State.startDrain_eng_acc (s : State) : s.startDrain.eng.acc = s.eng.acc := rfl
@[simp] theorem State.startDrain_eng_cnt (s : State) : s.startDrain.eng.cnt = s.eng.cnt := rfl
@[simp] theorem State.startDrain_eng_stored (s : State) : s.startDrain.eng.stored = s.eng.stored := rfl
@[simp] theorem State.startDrain_eng_txi (s : State) : s.startDrain.eng.txi = s.eng.txi := rfl
@[simp] theorem State.startDrain_eng_latL (s : State) : s.startDrain.eng.latL = s.eng.latL := rfl
@[simp] theorem State.startDrain_eng_latSt (s : State) : s.startDrain.eng.latSt = s.eng.latSt := rfl
@[simp] theorem State.startDrain_eng_latR (s : State) : s.startDrain.eng.latR = s.eng.latR := rfl
@[simp] theorem State.startDrain_params (s : State) : s.startDrain.params = s.params := rfl
@[simp] theorem State.startDrain_free (s : State) : s.startDrain.free = s.free := rfl
@[simp] theorem State.startDrain_env (s : State) : s.startDrain.env = s.env := rfl

/-! `finish` -/

@[simp] theorem State.finish_ctrl (s : State) (code : ReadOutcome) (plen summed rcvd : Byte) : (s.finish code plen summed rcvd).ctrl = s.ctrl := rfl
@[simp] theorem State.finish_stat_done (s : State) (code : ReadOutcome) (plen summed rcvd : Byte) : (s.finish code plen summed rcvd).stat.done = true := rfl
@[simp] theorem State.finish_stat_werr (s : State) (code : ReadOutcome) (plen summed rcvd : Byte) : (s.finish code plen summed rcvd).stat.werr = s.stat.werr := rfl
@[simp] theorem State.finish_stat_zlen (s : State) (code : ReadOutcome) (plen summed rcvd : Byte) : (s.finish code plen summed rcvd).stat.zlen = decide (s.eng.latL = 0) := rfl
@[simp] theorem State.finish_stat_err (s : State) (code : ReadOutcome) (plen summed rcvd : Byte) : (s.finish code plen summed rcvd).stat.err = s.stat.err := rfl
@[simp] theorem State.finish_stat_outcome (s : State) (code : ReadOutcome) (plen summed rcvd : Byte) : (s.finish code plen summed rcvd).stat.outcome = code := rfl
@[simp] theorem State.finish_tx (s : State) (code : ReadOutcome) (plen summed rcvd : Byte) : (s.finish code plen summed rcvd).tx = s.tx := rfl
@[simp] theorem State.finish_rx_echoLen (s : State) (code : ReadOutcome) (plen summed rcvd : Byte) : (s.finish code plen summed rcvd).rx.echoLen = s.rx.echoLen := rfl
@[simp] theorem State.finish_rx_cap (s : State) (code : ReadOutcome) (plen summed rcvd : Byte) : (s.finish code plen summed rcvd).rx.cap = s.rx.cap := rfl
@[simp] theorem State.finish_rx_len (s : State) (code : ReadOutcome) (plen summed rcvd : Byte) : (s.finish code plen summed rcvd).rx.len = s.eng.latL := rfl
@[simp] theorem State.finish_rx_status (s : State) (code : ReadOutcome) (plen summed rcvd : Byte) : (s.finish code plen summed rcvd).rx.status = s.eng.latSt := rfl
@[simp] theorem State.finish_rx_plen (s : State) (code : ReadOutcome) (plen summed rcvd : Byte) : (s.finish code plen summed rcvd).rx.plen = plen := rfl
@[simp] theorem State.finish_rx_csumCalc (s : State) (code : ReadOutcome) (plen summed rcvd : Byte) : (s.finish code plen summed rcvd).rx.csumCalc = summed := rfl
@[simp] theorem State.finish_rx_csumRcvd (s : State) (code : ReadOutcome) (plen summed rcvd : Byte) : (s.finish code plen summed rcvd).rx.csumRcvd = rcvd := rfl
@[simp] theorem State.finish_dtc (s : State) (code : ReadOutcome) (plen summed rcvd : Byte) : (s.finish code plen summed rcvd).dtc = s.dtc := rfl
@[simp] theorem State.finish_view (s : State) (code : ReadOutcome) (plen summed rcvd : Byte) : (s.finish code plen summed rcvd).view = s.view := rfl
@[simp] theorem State.finish_mem (s : State) (code : ReadOutcome) (plen summed rcvd : Byte) : (s.finish code plen summed rcvd).mem = s.mem := rfl
@[simp] theorem State.finish_dtcTab (s : State) (code : ReadOutcome) (plen summed rcvd : Byte) : (s.finish code plen summed rcvd).dtcTab = s.dtcTab := rfl
@[simp] theorem State.finish_eng_seq (s : State) (code : ReadOutcome) (plen summed rcvd : Byte) : (s.finish code plen summed rcvd).eng.seq = .idle := rfl
@[simp] theorem State.finish_eng_negDrainL (s : State) (code : ReadOutcome) (plen summed rcvd : Byte) : (s.finish code plen summed rcvd).eng.negDrainL = s.eng.negDrainL := rfl
@[simp] theorem State.finish_eng_drain (s : State) (code : ReadOutcome) (plen summed rcvd : Byte) : (s.finish code plen summed rcvd).eng.drain = s.eng.drain := rfl
@[simp] theorem State.finish_eng_acc (s : State) (code : ReadOutcome) (plen summed rcvd : Byte) : (s.finish code plen summed rcvd).eng.acc = s.eng.acc := rfl
@[simp] theorem State.finish_eng_cnt (s : State) (code : ReadOutcome) (plen summed rcvd : Byte) : (s.finish code plen summed rcvd).eng.cnt = s.eng.cnt := rfl
@[simp] theorem State.finish_eng_stored (s : State) (code : ReadOutcome) (plen summed rcvd : Byte) : (s.finish code plen summed rcvd).eng.stored = s.eng.stored := rfl
@[simp] theorem State.finish_eng_txi (s : State) (code : ReadOutcome) (plen summed rcvd : Byte) : (s.finish code plen summed rcvd).eng.txi = s.eng.txi := rfl
@[simp] theorem State.finish_eng_latL (s : State) (code : ReadOutcome) (plen summed rcvd : Byte) : (s.finish code plen summed rcvd).eng.latL = s.eng.latL := rfl
@[simp] theorem State.finish_eng_latSt (s : State) (code : ReadOutcome) (plen summed rcvd : Byte) : (s.finish code plen summed rcvd).eng.latSt = s.eng.latSt := rfl
@[simp] theorem State.finish_eng_latR (s : State) (code : ReadOutcome) (plen summed rcvd : Byte) : (s.finish code plen summed rcvd).eng.latR = s.eng.latR := rfl
@[simp] theorem State.finish_params (s : State) (code : ReadOutcome) (plen summed rcvd : Byte) : (s.finish code plen summed rcvd).params = s.params := rfl
@[simp] theorem State.finish_free (s : State) (code : ReadOutcome) (plen summed rcvd : Byte) : (s.finish code plen summed rcvd).free = s.free := rfl
@[simp] theorem State.finish_env (s : State) (code : ReadOutcome) (plen summed rcvd : Byte) : (s.finish code plen summed rcvd).env = s.env := rfl

/-! `leaveReset` -/

@[simp] theorem State.leaveReset_ctrl (s : State) : s.leaveReset.ctrl = s.ctrl := rfl
@[simp] theorem State.leaveReset_stat (s : State) : s.leaveReset.stat = s.stat := rfl
@[simp] theorem State.leaveReset_tx (s : State) : s.leaveReset.tx = s.tx := rfl
@[simp] theorem State.leaveReset_rx (s : State) : s.leaveReset.rx = s.rx := rfl
@[simp] theorem State.leaveReset_dtc (s : State) : s.leaveReset.dtc = s.dtc := rfl
@[simp] theorem State.leaveReset_view (s : State) : s.leaveReset.view = s.view := rfl
@[simp] theorem State.leaveReset_mem (s : State) : s.leaveReset.mem = s.mem := rfl
@[simp] theorem State.leaveReset_dtcTab (s : State) : s.leaveReset.dtcTab = s.dtcTab := rfl
@[simp] theorem State.leaveReset_eng (s : State) : s.leaveReset.eng = s.eng := rfl
@[simp] theorem State.leaveReset_params (s : State) : s.leaveReset.params = s.params := rfl
@[simp] theorem State.leaveReset_free (s : State) : s.leaveReset.free = s.free := rfl
@[simp] theorem State.leaveReset_env_pending (s : State) : s.leaveReset.env.pending = s.env.pending := rfl
@[simp] theorem State.leaveReset_env_rxStream (s : State) : s.leaveReset.env.rxStream = s.env.rxStream := rfl
@[simp] theorem State.leaveReset_env_txSent (s : State) : s.leaveReset.env.txSent = s.env.txSent := rfl
@[simp] theorem State.leaveReset_env_readData (s : State) : s.leaveReset.env.readData = s.env.readData := rfl
@[simp] theorem State.leaveReset_env_rstN (s : State) : s.leaveReset.env.rstN = s.env.rstN := rfl
@[simp] theorem State.leaveReset_env_held (s : State) : s.leaveReset.env.held = false := rfl

/-! `afterEvent` -/

@[simp] theorem State.afterEvent_ctrl (s : State) (rest : List Event) : (s.afterEvent rest).ctrl = s.ctrl := rfl
@[simp] theorem State.afterEvent_stat (s : State) (rest : List Event) : (s.afterEvent rest).stat = s.stat := rfl
@[simp] theorem State.afterEvent_tx (s : State) (rest : List Event) : (s.afterEvent rest).tx = s.tx := rfl
@[simp] theorem State.afterEvent_rx (s : State) (rest : List Event) : (s.afterEvent rest).rx = s.rx := rfl
@[simp] theorem State.afterEvent_dtc (s : State) (rest : List Event) : (s.afterEvent rest).dtc = s.dtc := rfl
@[simp] theorem State.afterEvent_view (s : State) (rest : List Event) : (s.afterEvent rest).view = s.view := rfl
@[simp] theorem State.afterEvent_mem (s : State) (rest : List Event) : (s.afterEvent rest).mem = s.mem := rfl
@[simp] theorem State.afterEvent_dtcTab (s : State) (rest : List Event) : (s.afterEvent rest).dtcTab = s.dtcTab := rfl
@[simp] theorem State.afterEvent_eng (s : State) (rest : List Event) : (s.afterEvent rest).eng = s.eng := rfl
@[simp] theorem State.afterEvent_params (s : State) (rest : List Event) : (s.afterEvent rest).params = s.params := rfl
@[simp] theorem State.afterEvent_free (s : State) (rest : List Event) : (s.afterEvent rest).free = s.free := rfl
@[simp] theorem State.afterEvent_env_pending (s : State) (rest : List Event) : (s.afterEvent rest).env.pending = rest := rfl
@[simp] theorem State.afterEvent_env_rxStream (s : State) (rest : List Event) : (s.afterEvent rest).env.rxStream = s.env.rxStream := rfl
@[simp] theorem State.afterEvent_env_txSent (s : State) (rest : List Event) : (s.afterEvent rest).env.txSent = s.env.txSent := rfl
@[simp] theorem State.afterEvent_env_readData (s : State) (rest : List Event) : (s.afterEvent rest).env.readData = s.env.readData := rfl
@[simp] theorem State.afterEvent_env_rstN (s : State) (rest : List Event) : (s.afterEvent rest).env.rstN = s.env.rstN := rfl
@[simp] theorem State.afterEvent_env_held (s : State) (rest : List Event) : (s.afterEvent rest).env.held = s.env.held := rfl

/-! `putTx` -/

@[simp] theorem State.putTx_ctrl (s : State) (i : Nat) (b : Byte) : (s.putTx i b).ctrl = s.ctrl := rfl
@[simp] theorem State.putTx_stat (s : State) (i : Nat) (b : Byte) : (s.putTx i b).stat = s.stat := rfl
@[simp] theorem State.putTx_tx (s : State) (i : Nat) (b : Byte) : (s.putTx i b).tx = s.tx := rfl
@[simp] theorem State.putTx_rx (s : State) (i : Nat) (b : Byte) : (s.putTx i b).rx = s.rx := rfl
@[simp] theorem State.putTx_dtc (s : State) (i : Nat) (b : Byte) : (s.putTx i b).dtc = s.dtc := rfl
@[simp] theorem State.putTx_view (s : State) (i : Nat) (b : Byte) : (s.putTx i b).view = s.view := rfl
@[simp] theorem State.putTx_mem (s : State) (i : Nat) (b : Byte) : (s.putTx i b).mem = s.mem.put (txbufBase + i) b := rfl
@[simp] theorem State.putTx_dtcTab (s : State) (i : Nat) (b : Byte) : (s.putTx i b).dtcTab = s.dtcTab := rfl
@[simp] theorem State.putTx_eng (s : State) (i : Nat) (b : Byte) : (s.putTx i b).eng = s.eng := rfl
@[simp] theorem State.putTx_params (s : State) (i : Nat) (b : Byte) : (s.putTx i b).params = s.params := rfl
@[simp] theorem State.putTx_free (s : State) (i : Nat) (b : Byte) : (s.putTx i b).free = s.free := rfl
@[simp] theorem State.putTx_env (s : State) (i : Nat) (b : Byte) : (s.putTx i b).env = s.env := rfl

/-! `putRequest` -/

@[simp] theorem State.putRequest_ctrl (s : State) : s.putRequest.ctrl = s.ctrl := rfl
@[simp] theorem State.putRequest_stat (s : State) : s.putRequest.stat = s.stat := rfl
@[simp] theorem State.putRequest_tx_sid (s : State) : s.putRequest.tx.sid = s.tx.sid := rfl
@[simp] theorem State.putRequest_tx_plen (s : State) : s.putRequest.tx.plen = s.tx.plen := rfl
@[simp] theorem State.putRequest_tx_flen (s : State) : s.putRequest.tx.flen = BitVec.ofNat 8 (1 + s.tx.plen.toNat) := rfl
@[simp] theorem State.putRequest_tx_csum (s : State) : s.putRequest.tx.csum = reqChecksum s.tx.sid s.txPayload := rfl
@[simp] theorem State.putRequest_tx_count (s : State) : s.putRequest.tx.count = BitVec.ofNat 9 (s.tx.plen.toNat + 3) := rfl
@[simp] theorem State.putRequest_rx (s : State) : s.putRequest.rx = s.rx := rfl
@[simp] theorem State.putRequest_dtc (s : State) : s.putRequest.dtc = s.dtc := rfl
@[simp] theorem State.putRequest_view (s : State) : s.putRequest.view = s.view := rfl
@[simp] theorem State.putRequest_mem (s : State) : s.putRequest.mem = s.mem := rfl
@[simp] theorem State.putRequest_dtcTab (s : State) : s.putRequest.dtcTab = s.dtcTab := rfl
@[simp] theorem State.putRequest_eng (s : State) : s.putRequest.eng = s.eng := rfl
@[simp] theorem State.putRequest_params (s : State) : s.putRequest.params = s.params := rfl
@[simp] theorem State.putRequest_free (s : State) : s.putRequest.free = s.free := rfl
@[simp] theorem State.putRequest_env (s : State) : s.putRequest.env = s.env := rfl

/-! `startSend` -/

@[simp] theorem State.startSend_ctrl (s : State) : s.startSend.ctrl = s.ctrl := rfl
@[simp] theorem State.startSend_stat (s : State) : s.startSend.stat = s.stat := rfl
@[simp] theorem State.startSend_tx (s : State) : s.startSend.tx = s.tx := rfl
@[simp] theorem State.startSend_rx (s : State) : s.startSend.rx = s.rx := rfl
@[simp] theorem State.startSend_dtc (s : State) : s.startSend.dtc = s.dtc := rfl
@[simp] theorem State.startSend_view (s : State) : s.startSend.view = s.view := rfl
@[simp] theorem State.startSend_mem (s : State) : s.startSend.mem = s.mem := rfl
@[simp] theorem State.startSend_dtcTab (s : State) : s.startSend.dtcTab = s.dtcTab := rfl
@[simp] theorem State.startSend_eng_seq (s : State) : s.startSend.eng.seq = .tx := rfl
@[simp] theorem State.startSend_eng_negDrainL (s : State) : s.startSend.eng.negDrainL = s.eng.negDrainL := rfl
@[simp] theorem State.startSend_eng_drain (s : State) : s.startSend.eng.drain = s.eng.drain := rfl
@[simp] theorem State.startSend_eng_acc (s : State) : s.startSend.eng.acc = s.eng.acc := rfl
@[simp] theorem State.startSend_eng_cnt (s : State) : s.startSend.eng.cnt = BitVec.ofNat 16 (s.tx.plen.toNat + 3) := rfl
@[simp] theorem State.startSend_eng_stored (s : State) : s.startSend.eng.stored = s.eng.stored := rfl
@[simp] theorem State.startSend_eng_txi (s : State) : s.startSend.eng.txi = 0 := rfl
@[simp] theorem State.startSend_eng_latL (s : State) : s.startSend.eng.latL = s.eng.latL := rfl
@[simp] theorem State.startSend_eng_latSt (s : State) : s.startSend.eng.latSt = s.eng.latSt := rfl
@[simp] theorem State.startSend_eng_latR (s : State) : s.startSend.eng.latR = s.eng.latR := rfl
@[simp] theorem State.startSend_params (s : State) : s.startSend.params = s.params := rfl
@[simp] theorem State.startSend_free (s : State) : s.startSend.free = s.free := rfl
@[simp] theorem State.startSend_env (s : State) : s.startSend.env = s.env := rfl

/-! `sentByte` -/

@[simp] theorem State.sentByte_ctrl (s : State) : s.sentByte.ctrl = s.ctrl := rfl
@[simp] theorem State.sentByte_stat (s : State) : s.sentByte.stat = s.stat := rfl
@[simp] theorem State.sentByte_tx (s : State) : s.sentByte.tx = s.tx := rfl
@[simp] theorem State.sentByte_rx (s : State) : s.sentByte.rx = s.rx := rfl
@[simp] theorem State.sentByte_dtc (s : State) : s.sentByte.dtc = s.dtc := rfl
@[simp] theorem State.sentByte_view (s : State) : s.sentByte.view = s.view := rfl
@[simp] theorem State.sentByte_mem (s : State) : s.sentByte.mem = s.mem := rfl
@[simp] theorem State.sentByte_dtcTab (s : State) : s.sentByte.dtcTab = s.dtcTab := rfl
@[simp] theorem State.sentByte_eng_seq (s : State) : s.sentByte.eng.seq = s.eng.seq := rfl
@[simp] theorem State.sentByte_eng_negDrainL (s : State) : s.sentByte.eng.negDrainL = s.eng.negDrainL := rfl
@[simp] theorem State.sentByte_eng_drain (s : State) : s.sentByte.eng.drain = s.eng.drain := rfl
@[simp] theorem State.sentByte_eng_acc (s : State) : s.sentByte.eng.acc = s.eng.acc := rfl
@[simp] theorem State.sentByte_eng_cnt (s : State) : s.sentByte.eng.cnt = s.eng.cnt := rfl
@[simp] theorem State.sentByte_eng_stored (s : State) : s.sentByte.eng.stored = s.eng.stored := rfl
@[simp] theorem State.sentByte_eng_txi (s : State) : s.sentByte.eng.txi = s.eng.txi + 1 := rfl
@[simp] theorem State.sentByte_eng_latL (s : State) : s.sentByte.eng.latL = s.eng.latL := rfl
@[simp] theorem State.sentByte_eng_latSt (s : State) : s.sentByte.eng.latSt = s.eng.latSt := rfl
@[simp] theorem State.sentByte_eng_latR (s : State) : s.sentByte.eng.latR = s.eng.latR := rfl
@[simp] theorem State.sentByte_params (s : State) : s.sentByte.params = s.params := rfl
@[simp] theorem State.sentByte_free (s : State) : s.sentByte.free = s.free := rfl
@[simp] theorem State.sentByte_env_pending (s : State) : s.sentByte.env.pending = s.env.pending := rfl
@[simp] theorem State.sentByte_env_rxStream (s : State) : s.sentByte.env.rxStream = s.env.rxStream := rfl
@[simp] theorem State.sentByte_env_txSent (s : State) : s.sentByte.env.txSent = s.env.txSent ++ [s.txData] := rfl
@[simp] theorem State.sentByte_env_readData (s : State) : s.sentByte.env.readData = s.env.readData := rfl
@[simp] theorem State.sentByte_env_rstN (s : State) : s.sentByte.env.rstN = s.env.rstN := rfl
@[simp] theorem State.sentByte_env_held (s : State) : s.sentByte.env.held = s.env.held := rfl

/-! `startRead` -/

@[simp] theorem State.startRead_ctrl (s : State) : s.startRead.ctrl = s.ctrl := rfl
@[simp] theorem State.startRead_stat_done (s : State) : s.startRead.stat.done = s.stat.done := rfl
@[simp] theorem State.startRead_stat_werr (s : State) : s.startRead.stat.werr = s.stat.werr := rfl
@[simp] theorem State.startRead_stat_zlen (s : State) : s.startRead.stat.zlen = false := rfl
@[simp] theorem State.startRead_stat_err (s : State) : s.startRead.stat.err = s.stat.err := rfl
@[simp] theorem State.startRead_stat_outcome (s : State) : s.startRead.stat.outcome = .none := rfl
@[simp] theorem State.startRead_tx (s : State) : s.startRead.tx = s.tx := rfl
@[simp] theorem State.startRead_rx (s : State) : s.startRead.rx = s.rx := rfl
@[simp] theorem State.startRead_dtc_ndecl (s : State) : s.startRead.dtc.ndecl = s.dtc.ndecl := rfl
@[simp] theorem State.startRead_dtc_neff (s : State) : s.startRead.dtc.neff = s.dtc.neff := rfl
@[simp] theorem State.startRead_dtc_trunc (s : State) : s.startRead.dtc.trunc = s.dtc.trunc := rfl
@[simp] theorem State.startRead_dtc_valid (s : State) : s.startRead.dtc.valid = false := rfl
@[simp] theorem State.startRead_view (s : State) : s.startRead.view = s.view := rfl
@[simp] theorem State.startRead_mem (s : State) : s.startRead.mem = s.mem := rfl
@[simp] theorem State.startRead_dtcTab (s : State) : s.startRead.dtcTab = s.dtcTab := rfl
@[simp] theorem State.startRead_eng_seq (s : State) : s.startRead.eng.seq = s.eng.seq := rfl
@[simp] theorem State.startRead_eng_negDrainL (s : State) : s.startRead.eng.negDrainL = s.ctrl.negDrain := rfl
@[simp] theorem State.startRead_eng_drain (s : State) : s.startRead.eng.drain = false := rfl
@[simp] theorem State.startRead_eng_acc (s : State) : s.startRead.eng.acc = 0 := rfl
@[simp] theorem State.startRead_eng_cnt (s : State) : s.startRead.eng.cnt = s.eng.cnt := rfl
@[simp] theorem State.startRead_eng_stored (s : State) : s.startRead.eng.stored = 0 := rfl
@[simp] theorem State.startRead_eng_txi (s : State) : s.startRead.eng.txi = s.eng.txi := rfl
@[simp] theorem State.startRead_eng_latL (s : State) : s.startRead.eng.latL = s.eng.latL := rfl
@[simp] theorem State.startRead_eng_latSt (s : State) : s.startRead.eng.latSt = s.eng.latSt := rfl
@[simp] theorem State.startRead_eng_latR (s : State) : s.startRead.eng.latR = s.eng.latR := rfl
@[simp] theorem State.startRead_params (s : State) : s.startRead.params = s.params := rfl
@[simp] theorem State.startRead_free (s : State) : s.startRead.free = s.free := rfl
@[simp] theorem State.startRead_env (s : State) : s.startRead.env = s.env := rfl

/-! `putRecords` -/

@[simp] theorem State.putRecords_ctrl (s : State) : s.putRecords.ctrl = s.ctrl := rfl
@[simp] theorem State.putRecords_stat (s : State) : s.putRecords.stat = s.stat := rfl
@[simp] theorem State.putRecords_tx (s : State) : s.putRecords.tx = s.tx := rfl
@[simp] theorem State.putRecords_rx (s : State) : s.putRecords.rx = s.rx := rfl
@[simp] theorem State.putRecords_dtc_ndecl (s : State) : s.putRecords.dtc.ndecl = s.dtcDeclared := rfl
@[simp] theorem State.putRecords_dtc_neff (s : State) : s.putRecords.dtc.neff = BitVec.ofNat 8 s.dtcEffective := rfl
@[simp] theorem State.putRecords_dtc_trunc (s : State) : s.putRecords.dtc.trunc = s.dtcTruncated := rfl
@[simp] theorem State.putRecords_dtc_valid (s : State) : s.putRecords.dtc.valid = true := rfl
@[simp] theorem State.putRecords_view (s : State) : s.putRecords.view = s.view := rfl
@[simp] theorem State.putRecords_mem (s : State) : s.putRecords.mem = s.mem := rfl
@[simp] theorem State.putRecords_dtcTab (s : State) : s.putRecords.dtcTab = Vector.ofFn fun k : Fin 26 => if k.val < s.dtcEffective then s.payloadRecord k.val else .zero := rfl
@[simp] theorem State.putRecords_eng (s : State) : s.putRecords.eng = s.eng := rfl
@[simp] theorem State.putRecords_params (s : State) : s.putRecords.params = s.params := rfl
@[simp] theorem State.putRecords_free (s : State) : s.putRecords.free = s.free := rfl
@[simp] theorem State.putRecords_env (s : State) : s.putRecords.env = s.env := rfl

/-! `putView` -/

@[simp] theorem State.putView_ctrl (s : State) (r : DtcRecord) : (s.putView r).ctrl = s.ctrl := rfl
@[simp] theorem State.putView_stat (s : State) (r : DtcRecord) : (s.putView r).stat = s.stat := rfl
@[simp] theorem State.putView_tx (s : State) (r : DtcRecord) : (s.putView r).tx = s.tx := rfl
@[simp] theorem State.putView_rx (s : State) (r : DtcRecord) : (s.putView r).rx = s.rx := rfl
@[simp] theorem State.putView_dtc (s : State) (r : DtcRecord) : (s.putView r).dtc = s.dtc := rfl
@[simp] theorem State.putView_view_input (s : State) (r : DtcRecord) : (s.putView r).view.input = s.view.input := rfl
@[simp] theorem State.putView_view_record (s : State) (r : DtcRecord) : (s.putView r).view.record = r := rfl
@[simp] theorem State.putView_view_code (s : State) (r : DtcRecord) : (s.putView r).view.code = codeWord r.high r.low := rfl
@[simp] theorem State.putView_view_ascii0 (s : State) (r : DtcRecord) : (s.putView r).view.ascii0 = packBytes (toCode r.high r.low).c0 (toCode r.high r.low).c1 (toCode r.high r.low).c2 (toCode r.high r.low).c3 := rfl
@[simp] theorem State.putView_view_ascii1 (s : State) (r : DtcRecord) : (s.putView r).view.ascii1 = (toCode r.high r.low).c4 := rfl
@[simp] theorem State.putView_view_status (s : State) (r : DtcRecord) : (s.putView r).view.status = describeStatus s.params r.status := rfl
@[simp] theorem State.putView_mem (s : State) (r : DtcRecord) : (s.putView r).mem = s.mem := rfl
@[simp] theorem State.putView_dtcTab (s : State) (r : DtcRecord) : (s.putView r).dtcTab = s.dtcTab := rfl
@[simp] theorem State.putView_eng (s : State) (r : DtcRecord) : (s.putView r).eng = s.eng := rfl
@[simp] theorem State.putView_params (s : State) (r : DtcRecord) : (s.putView r).params = s.params := rfl
@[simp] theorem State.putView_free (s : State) (r : DtcRecord) : (s.putView r).free = s.free := rfl
@[simp] theorem State.putView_env (s : State) (r : DtcRecord) : (s.putView r).env = s.env := rfl

/-! `resetAll` -/

@[simp] theorem State.resetAll_ctrl (s : State) : s.resetAll.ctrl = State.reset.ctrl := rfl
@[simp] theorem State.resetAll_stat (s : State) : s.resetAll.stat = State.reset.stat := rfl
@[simp] theorem State.resetAll_tx (s : State) : s.resetAll.tx = State.reset.tx := rfl
@[simp] theorem State.resetAll_rx (s : State) : s.resetAll.rx = State.reset.rx := rfl
@[simp] theorem State.resetAll_dtc (s : State) : s.resetAll.dtc = State.reset.dtc := rfl
@[simp] theorem State.resetAll_view (s : State) : s.resetAll.view = State.reset.view := rfl
@[simp] theorem State.resetAll_mem (s : State) : s.resetAll.mem = State.reset.mem := rfl
@[simp] theorem State.resetAll_dtcTab (s : State) : s.resetAll.dtcTab = State.reset.dtcTab := rfl
@[simp] theorem State.resetAll_eng (s : State) : s.resetAll.eng = State.reset.eng := rfl
@[simp] theorem State.resetAll_params (s : State) : s.resetAll.params = s.params := rfl
@[simp] theorem State.resetAll_free (s : State) : s.resetAll.free = s.free.renew := rfl
@[simp] theorem State.resetAll_env (s : State) : s.resetAll.env = s.env := rfl

/-! `putRx`, which writes only inside RXBUF -/

@[simp] theorem State.putRx_ctrl (s : State) (i : Nat) (b : Byte) : (s.putRx i b).ctrl = s.ctrl := by unfold State.putRx; split <;> rfl
@[simp] theorem State.putRx_stat (s : State) (i : Nat) (b : Byte) : (s.putRx i b).stat = s.stat := by unfold State.putRx; split <;> rfl
@[simp] theorem State.putRx_tx (s : State) (i : Nat) (b : Byte) : (s.putRx i b).tx = s.tx := by unfold State.putRx; split <;> rfl
@[simp] theorem State.putRx_rx (s : State) (i : Nat) (b : Byte) : (s.putRx i b).rx = s.rx := by unfold State.putRx; split <;> rfl
@[simp] theorem State.putRx_dtc (s : State) (i : Nat) (b : Byte) : (s.putRx i b).dtc = s.dtc := by unfold State.putRx; split <;> rfl
@[simp] theorem State.putRx_view (s : State) (i : Nat) (b : Byte) : (s.putRx i b).view = s.view := by unfold State.putRx; split <;> rfl
@[simp] theorem State.putRx_dtcTab (s : State) (i : Nat) (b : Byte) : (s.putRx i b).dtcTab = s.dtcTab := by unfold State.putRx; split <;> rfl
@[simp] theorem State.putRx_eng (s : State) (i : Nat) (b : Byte) : (s.putRx i b).eng = s.eng := by unfold State.putRx; split <;> rfl
@[simp] theorem State.putRx_params (s : State) (i : Nat) (b : Byte) : (s.putRx i b).params = s.params := by unfold State.putRx; split <;> rfl
@[simp] theorem State.putRx_free_txBase (s : State) (i : Nat) (b : Byte) : (s.putRx i b).free.txBase = s.free.txBase := by unfold State.putRx; split <;> rfl
@[simp] theorem State.putRx_env (s : State) (i : Nat) (b : Byte) : (s.putRx i b).env = s.env := by unfold State.putRx; split <;> rfl
@[simp] theorem State.putRx_mem (s : State) (i : Nat) (b : Byte) (h : i < Config.respCap) :
    (s.putRx i b).mem = s.mem.put (rxbufBase + i) b := by simp [State.putRx, h]

end Sys2Proof.Machine
end

