-- ==== Sys2Proof/Laws/Buffers.lean ====
section
/-! SUPPORT. Reads of TXBUF and RXBUF after a write to either: the byte written, and every other byte as before. -/

namespace Sys2Proof.Machine

/-- The bytes of TXBUF depend on the memory and on the draw of unwritten bytes only. -/
theorem txByte_congr {s t : State} (hm : t.mem = s.mem) (hf : t.free.txBase = s.free.txBase) (i : Nat) :
    t.txByte i = s.txByte i := by
  unfold State.txByte
  rw [hm, hf]

/-- So does the request payload, with its length. -/
theorem txPayload_congr {s t : State} (hm : t.mem = s.mem) (hf : t.free.txBase = s.free.txBase)
    (hp : t.tx.plen = s.tx.plen) : t.txPayload = s.txPayload := by
  unfold State.txPayload
  rw [hp]
  exact List.map_congr_left fun i _ => txByte_congr hm hf i

/-- The bytes of RXBUF depend on the memory and on the draws of the RXBUF bytes only. -/
theorem rxCell_congr {s t : State} (hm : t.mem = s.mem) (hf : t.free.rx = s.free.rx) (i : Nat) :
    t.rxCell i = s.rxCell i := by
  unfold State.rxCell State.rxFree State.rxDraw
  rw [hm, hf]

@[simp] theorem txByte_putTx_same (s : State) (i : Nat) (b : Byte) : (s.putTx i b).txByte i = b := by
  simp [State.txByte]

theorem txByte_putTx_other (s : State) {i k : Nat} (b : Byte) (h : k ≠ i) : (s.putTx i b).txByte k = s.txByte k := by
  simp [State.txByte, Memory.get?_put_other _ b (show txbufBase + k ≠ txbufBase + i by omega)]

@[simp] theorem rxCell_putRx_same (s : State) {i : Nat} (b : Byte) (h : i < Config.respCap) :
    (s.putRx i b).rxCell i = b := by
  simp [State.rxCell, h]

theorem rxCell_putRx_other (s : State) {i k : Nat} (b : Byte) (h : k ≠ i) : (s.putRx i b).rxCell k = s.rxCell k := by
  unfold State.putRx
  split
  · simp only [State.rxCell, State.rxFree, State.rxDraw,
      Memory.get?_put_other _ b (show rxbufBase + k ≠ rxbufBase + i by omega),
      Vector.getElem?_setIfInBounds_ne (Ne.symm h)]
  · rfl

/-- A stored response byte is no request byte. -/
theorem txByte_putRx (s : State) (i : Nat) (b : Byte) {k : Nat} (h : k < 256) :
    (s.putRx i b).txByte k = s.txByte k := by
  have hne : txbufBase + k ≠ rxbufBase + i := by unfold txbufBase rxbufBase; omega
  unfold State.putRx
  split
  · simp only [State.txByte, Memory.get?_put_other _ b hne]
  · rfl

/-- A request byte written is no response byte. -/
theorem rxCell_putTx (s : State) {i : Nat} (b : Byte) (k : Nat) (h : i < 256) : (s.putTx i b).rxCell k = s.rxCell k := by
  have hne : rxbufBase + k ≠ txbufBase + i := by unfold txbufBase rxbufBase; omega
  simp [State.rxCell, State.rxFree, State.rxDraw, Memory.get?_put_other _ b hne]

end Sys2Proof.Machine
end

