-- ==== Sys2Proof/Laws/Decode.lean ====
section
/-! SUPPORT. The fields of a command word as numbers, said once, and what the encoder puts into them (R60, R61). -/

namespace Sys2Proof

/-- A concatenation as a number. -/
theorem toNat_concat {m n : Nat} (x : BitVec m) (y : BitVec n) : (x ++ y).toNat = x.toNat * 2 ^ n + y.toNat := by
  rw [BitVec.toNat_append, ← Nat.shiftLeft_add_eq_or_of_lt y.isLt, Nat.shiftLeft_eq]

theorem opField_toNat (w : Word) : (opField w).toNat = w.toNat % 256 := by
  simp [opField, BitVec.extractLsb'_toNat]

theorem idxField_toNat (w : Word) : (idxField w).toNat = w.toNat / 256 % 256 := by
  simp [idxField, BitVec.extractLsb'_toNat, Nat.shiftRight_eq_div_pow]

theorem srcField_toNat (w : Word) : (srcField w).toNat = w.toNat / 65536 % 2 := by
  simp [srcField, BitVec.extractLsb'_toNat, Nat.shiftRight_eq_div_pow]

theorem reservedField_toNat (w : Word) : (reservedField w).toNat = w.toNat / 131072 := by
  have := w.isLt
  simp [reservedField, BitVec.extractLsb'_toNat, Nat.shiftRight_eq_div_pow]
  omega

theorem packCommand_toNat (src : BitVec 1) (idx op : Byte) :
    (packCommand src idx op).toNat = src.toNat * 65536 + idx.toNat * 256 + op.toNat := by
  simp only [packCommand, toNat_concat]
  simp
  omega

@[simp] theorem opField_packCommand (src : BitVec 1) (idx op : Byte) : opField (packCommand src idx op) = op := by
  have := op.isLt
  apply BitVec.eq_of_toNat_eq
  rw [opField_toNat, packCommand_toNat]
  omega

@[simp] theorem idxField_packCommand (src : BitVec 1) (idx op : Byte) : idxField (packCommand src idx op) = idx := by
  have := op.isLt
  have := idx.isLt
  apply BitVec.eq_of_toNat_eq
  rw [idxField_toNat, packCommand_toNat]
  omega

@[simp] theorem srcField_packCommand (src : BitVec 1) (idx op : Byte) : srcField (packCommand src idx op) = src := by
  have := op.isLt
  have := idx.isLt
  have := src.isLt
  apply BitVec.eq_of_toNat_eq
  rw [srcField_toNat, packCommand_toNat]
  omega

@[simp] theorem reservedField_packCommand (src : BitVec 1) (idx op : Byte) : reservedField (packCommand src idx op) = 0 := by
  have := op.isLt
  have := idx.isLt
  have := src.isLt
  apply BitVec.eq_of_toNat_eq
  rw [reservedField_toNat, packCommand_toNat]
  simp
  omega

end Sys2Proof
end

