-- ==== Sys2Proof/Laws/Ops.lean ====
section
/-! SUPPORT. What each shared operation can do, said once: the busy lock, a submission, a Host write, a received byte. -/

namespace Sys2Proof.Machine

@[simp] theorem busy_eq_false {s : State} : s.busy = false ↔ s.eng.seq = .idle := by simp [State.busy]

@[simp] theorem busy_eq_true {s : State} : s.busy = true ↔ s.eng.seq ≠ .idle := by simp [State.busy]

@[simp] theorem lastOfPhase_eq_true {s : State} : s.lastOfPhase = true ↔ s.eng.cnt.toNat ≤ 1 := by
  simp [State.lastOfPhase]

@[simp] theorem lastOfPhase_eq_false {s : State} : s.lastOfPhase = false ↔ 1 < s.eng.cnt.toNat := by
  simp [State.lastOfPhase]

theorem lockedWrite_busy {s : State} (write : State → State) (h : s.eng.seq ≠ .idle) :
    s.lockedWrite write = s.dropWrite := by simp [State.lockedWrite, h]

theorem lockedWrite_idle {s : State} (write : State → State) (h : s.eng.seq = .idle) :
    s.lockedWrite write = write s := by simp [State.lockedWrite, h]

theorem submit_busy {s : State} (accept : State → State) (h : s.eng.seq ≠ .idle) :
    submit accept s = .next s.dropWrite := by rw [submit, lockedWrite_busy _ h]

theorem submit_idle {s : State} (accept : State → State) (h : s.eng.seq = .idle) :
    submit accept s = .next (accept s.beginCommand) := by rw [submit, lockedWrite_idle _ h]

/-- What a submission can be while not busy: refused, or accepted with the operand check passed. -/
inductive Accepted (s : State) : State → Prop
  | refused (code : CmdError) (h : code ≠ .none) : Accepted s (s.beginCommand.refuse code)
  | encode (h : s.tx.plen.toNat ≤ 254) : Accepted s s.beginCommand.putRequest.complete
  | send (h : s.tx.plen.toNat ≤ 254) : Accepted s s.beginCommand.putRequest.startSend
  | readEcho (hc : s.rx.cap.toNat ≤ 80) (h : s.rx.echoLen ≠ 0) :
      Accepted s (s.beginCommand.startRead.enter .rxEcho s.rx.echoLen)
  | readLen (hc : s.rx.cap.toNat ≤ 80) (h : s.rx.echoLen = 0) : Accepted s (enterLen s.beginCommand.startRead)
  | decoded (h : s.stat.outcome = .ok) : Accepted s s.beginCommand.putRecords.complete
  | viewed (r : DtcRecord) : Accepted s (s.beginCommand.putView r).complete

theorem acceptEncode_accepted (s : State) : Accepted s (acceptEncode s.beginCommand) := by
  unfold acceptEncode
  split
  · exact .refused _ (by simp)
  · rename_i h
    exact .encode (by simpa [State.plenTooLong, Config.txPlenMax] using h)

theorem acceptSend_accepted (s : State) : Accepted s (acceptSend s.beginCommand) := by
  unfold acceptSend
  split
  · exact .refused _ (by simp)
  · rename_i h
    exact .send (by simpa [State.plenTooLong, Config.txPlenMax] using h)

theorem acceptReadResp_accepted (s : State) : Accepted s (acceptReadResp s.beginCommand) := by
  unfold acceptReadResp
  split
  · exact .refused _ (by simp)
  · rename_i hc
    have hc : s.rx.cap.toNat ≤ 80 := by simpa [Config.respCap] using hc
    unfold enterEcho
    split
    · exact .readLen hc ‹_›
    · exact .readEcho hc ‹_›

theorem acceptDtcDecode_accepted (s : State) : Accepted s (acceptDtcDecode s.beginCommand) := by
  unfold acceptDtcDecode
  split
  · exact .refused _ (by simp)
  · rename_i h
    exact .decoded (by simpa using h)

theorem acceptDtcView_accepted (idx : Nat) (s : State) : Accepted s (acceptDtcView idx s.beginCommand) := by
  unfold acceptDtcView
  split
  · exact .refused _ (by simp)
  · exact .viewed _

theorem acceptDtcViewIn_accepted (s : State) : Accepted s (acceptDtcViewIn s.beginCommand) := .viewed _

/-- A busy-locked operand write done. -/
inductive OperandWrite (s : State) : State → Prop
  | txSid (b : Byte) : OperandWrite s { s with tx.sid := b }
  | txPlen (b : Byte) : OperandWrite s { s with tx.plen := b }
  | rxEchoLen (n : BitVec 16) : OperandWrite s { s with rx.echoLen := n }
  | rxCap (b : Byte) : OperandWrite s { s with rx.cap := b }
  | viewIn (r : DtcRecord) : OperandWrite s { s with view.input := r }
  | txbuf (j : Nat) (v : Word) (h : j < 64) : OperandWrite s (putTxWord j v s)

/-- What a Host write of a word can do. -/
inductive Written (s : State) : State → Prop
  | ignored : Written s s
  | dropped (h : s.eng.seq ≠ .idle) : Written s s.dropWrite
  | operand {t : State} (h : s.eng.seq = .idle) (w : OperandWrite s t) : Written s t
  | accepted {t : State} (h : s.eng.seq = .idle) (a : Accepted s t) : Written s t
  | ctrl (v : Word) : Written s (writeCtrl v s)
  | status (v : Word) : Written s (writeStatus v s)

theorem submit_written {s t : State} {accept : State → State} (ha : Accepted s (accept s.beginCommand))
    (h : submit accept s = .next t) : Written s t := by
  by_cases hb : s.eng.seq = .idle
  · rw [submit_idle _ hb] at h
    cases h
    exact .accepted hb ha
  · rw [submit_busy _ hb] at h
    cases h
    exact .dropped hb

/-- Every command is submitted: dropped while busy, else accepted or refused. -/
theorem exec_written {i : Instr} {s t : State} (h : exec i s = .next t) : Written s t := by
  cases i with
  | encode => exact submit_written (acceptEncode_accepted s) h
  | send => exact submit_written (acceptSend_accepted s) h
  | readResp => exact submit_written (acceptReadResp_accepted s) h
  | dtcDecode => exact submit_written (acceptDtcDecode_accepted s) h
  | dtcView idx => exact submit_written (acceptDtcView_accepted idx s) h
  | dtcViewIn => exact submit_written (acceptDtcViewIn_accepted s) h

theorem writeCmd_written {v : Word} {s t : State} (h : writeCmd v s = .next t) : Written s t := by
  unfold writeCmd at h
  split at h
  · exact exec_written h
  · exact submit_written (.refused _ (by simp)) h

theorem submit_accepted {s t : State} {accept : State → State} (ha : Accepted s (accept s.beginCommand))
    (hs : s.eng.seq = .idle) (h : submit accept s = .next t) : Accepted s t := by
  rw [submit_idle _ hs] at h
  cases h
  exact ha

/-- While not busy, what a command answers is its acceptance. -/
theorem exec_accepted {i : Instr} {s t : State} (hs : s.eng.seq = .idle) (h : exec i s = .next t) : Accepted s t := by
  cases i with
  | encode => exact submit_accepted (acceptEncode_accepted s) hs h
  | send => exact submit_accepted (acceptSend_accepted s) hs h
  | readResp => exact submit_accepted (acceptReadResp_accepted s) hs h
  | dtcDecode => exact submit_accepted (acceptDtcDecode_accepted s) hs h
  | dtcView idx => exact submit_accepted (acceptDtcView_accepted idx s) hs h
  | dtcViewIn => exact submit_accepted (acceptDtcViewIn_accepted s) hs h

/-- While not busy, what a `CMD` write answers is an acceptance or a refusal. -/
theorem writeCmd_accepted {v : Word} {s t : State} (hs : s.eng.seq = .idle) (h : writeCmd v s = .next t) :
    Accepted s t := by
  unfold writeCmd at h
  split at h
  · exact exec_accepted hs h
  · exact submit_accepted (.refused _ (by simp)) hs h

theorem lockedWrite_written {s : State} {write : State → State} (hw : OperandWrite s (write s)) :
    Written s (s.lockedWrite write) := by
  by_cases hb : s.eng.seq = .idle
  · rw [lockedWrite_idle _ hb]
    exact .operand hb hw
  · rw [lockedWrite_busy _ hb]
    exact .dropped hb

theorem writeReg_written {r : Reg} {v : Word} {s t : State} (h : writeReg r v s = .next t) : Written s t := by
  cases r <;> simp only [writeReg, Host.Outcome.next.injEq] at h
  case cmd => exact writeCmd_written h
  all_goals subst h
  case ctrl => exact .ctrl v
  case status => exact .status v
  case txSid => exact lockedWrite_written (.txSid _)
  case txPlen => exact lockedWrite_written (.txPlen _)
  case rxEchoLen => exact lockedWrite_written (.rxEchoLen _)
  case rxCap => exact lockedWrite_written (.rxCap _)
  case viewIn => exact lockedWrite_written (.viewIn _)
  all_goals exact .ignored

/-- A word of TXBUF is one of 64. -/
theorem targetAt_txbuf {addr : BitVec 12} {j : Nat} (h : targetAt addr = .txbuf j) : j < 64 := by
  unfold targetAt regTarget at h
  simp only at h
  split at h
  · split at h <;> cases h
  · split at h
    · cases h
      omega
    · split at h
      · cases h
      · split at h
        · cases h
        · split at h <;> cases h

theorem writeWord_written {addr : BitVec 12} {v : Word} {s t : State} (h : writeWord addr v s = .next t) :
    Written s t := by
  unfold writeWord at h
  split at h
  · exact writeReg_written h
  · rename_i j hj
    simp only [Host.Outcome.next.injEq] at h
    subst h
    exact lockedWrite_written (.txbuf j v (targetAt_txbuf hj))
  all_goals
    cases h
    exact .ignored

/-- What a clock edge can do. -/
inductive Edge (s : State) : State → Prop
  | nothing : Edge s s
  | leaves (h : s.env.rstN = true) : Edge s s.leaveReset
  | sent (hr : s.inReset = false) (h : s.eng.seq = .tx) (hc : s.eng.cnt ≠ 0) : Edge s (txTransfer s.freshDraw)
  | received (b : Byte) (rest : List Byte) (hr : s.inReset = false) (h : s.eng.seq.reading = true)
      (hc : s.transfersDone = false) (hs : s.env.rxStream = b :: rest) : Edge s (rxTransfer b { s with env.rxStream := rest })
  | completesSend (hr : s.inReset = false) (h : s.eng.seq = .tx) (hc : s.eng.cnt = 0) : Edge s (completeSend s)
  | completesShort (hr : s.inReset = false) (h : s.eng.seq = .rxStat) (hc : s.eng.cnt = 0) : Edge s (finishShort s)
  | completesFrame (hr : s.inReset = false) (h : s.eng.seq = .rxCsum) (hc : s.eng.cnt = 0) : Edge s (finishFrame s)

/-- A completion is due exactly in the three phases that end a command, with no byte left. -/
theorem transfersDone_eq_true {s : State} :
    s.transfersDone = true ↔ (s.eng.seq = .tx ∨ s.eng.seq = .rxStat ∨ s.eng.seq = .rxCsum) ∧ s.eng.cnt = 0 := by
  unfold State.transfersDone
  cases s.eng.seq <;> simp [Seq.completes]

/-- While bytes are left, no completion is due. -/
theorem transfersDone_eq_false {s : State} (h : s.eng.cnt ≠ 0) : s.transfersDone = false := by
  unfold State.transfersDone
  rw [decide_eq_false h, Bool.and_false]

/-- A completion that is due is one of the three. -/
theorem completion_edge {s : State} (hr : s.inReset = false) (h : s.transfersDone = true) : Edge s (completion s) := by
  obtain ⟨hs | hs | hs, hc⟩ := transfersDone_eq_true.1 h
  · simpa [completion, hs] using Edge.completesSend hr hs hc
  · simpa [completion, hs] using Edge.completesShort hr hs hc
  · simpa [completion, hs] using Edge.completesFrame hr hs hc

theorem clockEdge_edge (rxValid txReady : Bool) (s : State) : Edge s (clockEdge rxValid txReady s) := by
  unfold clockEdge
  split
  · split
    · exact .leaves ‹_›
    · exact .nothing
  · rename_i hr
    have hr : s.inReset = false := by simpa using hr
    split
    · exact completion_edge hr ‹_›
    · rename_i hd
      have hd : s.transfersDone = false := by simpa using hd
      split
      · rename_i hv
        have hq : s.eng.seq = .tx := by simpa [State.txValid, hr, hd] using hv
        split
        · exact .sent hr hq (fun hc => by simp [transfersDone_eq_true.2 ⟨.inl hq, hc⟩] at hd)
        · exact .nothing
      · split
        · rename_i hy
          have hy : s.eng.seq.reading = true := by simpa [State.rxReady, hr, hd] using hy
          unfold receiveEdge
          split
          · exact .received _ _ hr hy hd ‹_›
          · exact .nothing
          · exact .nothing
        · exact .nothing

/-! ## A received byte -/

/-- The state with a status byte summed and latched (R80). -/
def afterStat (b : Byte) (s : State) : State := { s.accumulate b with eng.latSt := b }

/-- What a payload byte can do before the phase goes on (R81, R82). -/
inductive PayByte (b : Byte) (s : State) : State → Prop
  | negative (h : s.eng.latSt = Config.negCode) : PayByte b s (s.accumulate b)
  | drained (h : s.eng.latSt ≠ Config.negCode) (hc : s.rx.cap.toNat ≤ s.eng.stored.toNat) :
      PayByte b s (s.accumulate b).startDrain
  | stored (h : s.eng.latSt ≠ Config.negCode) (hc : s.eng.stored.toNat < s.rx.cap.toNat) :
      PayByte b s ((s.accumulate b).putRx s.eng.stored.toNat b).countStored

/-- What a received byte can do. -/
inductive Taken (b : Byte) (s : State) : State → Prop
  | echoLast (hs : s.eng.seq = .rxEcho) (hc : s.eng.cnt.toNat ≤ 1) : Taken b s (enterLen s)
  | echoMore (hs : s.eng.seq = .rxEcho) (hc : 1 < s.eng.cnt.toNat) : Taken b s s.countDown
  | len (hs : s.eng.seq = .rxLen) : Taken b s ({ s.accumulate b with eng.latL := b : State }.enter .rxStat 1)
  | statNegative (hs : s.eng.seq = .rxStat) (hb : b = Config.negCode) (hn : s.eng.negDrainL = false) :
      Taken b s (afterStat b s).endTransfers
  | statNoPayload (hs : s.eng.seq = .rxStat) (hb : b = Config.negCode → s.eng.negDrainL = true)
      (hp : payloadCount s.eng.latL = 0) : Taken b s (enterCsum (afterStat b s))
  | statPayload (hs : s.eng.seq = .rxStat) (hb : b = Config.negCode → s.eng.negDrainL = true)
      (hp : payloadCount s.eng.latL ≠ 0) :
      Taken b s ((afterStat b s).enter .rxPay (BitVec.ofNat 16 (payloadCount s.eng.latL)))
  | payLast {u : State} (hs : s.eng.seq = .rxPay) (hu : PayByte b s u) (hc : s.eng.cnt.toNat ≤ 1) :
      Taken b s (enterCsum u)
  | payMore {u : State} (hs : s.eng.seq = .rxPay) (hu : PayByte b s u) (hc : 1 < s.eng.cnt.toNat) :
      Taken b s u.countDown
  | csum (hs : s.eng.seq = .rxCsum) : Taken b s { s with eng.latR := b : State }.endTransfers

/-- A payload byte leaves all but the sum, the draining, the stored bytes and their draws as it was. -/
theorem PayByte.same {b : Byte} {s u : State} (h : PayByte b s u) :
    u.ctrl = s.ctrl ∧ u.stat = s.stat ∧ u.tx = s.tx ∧ u.rx = s.rx ∧ u.dtc = s.dtc ∧ u.view = s.view ∧
      u.dtcTab = s.dtcTab ∧ u.params = s.params ∧ u.env = s.env ∧ u.free.txBase = s.free.txBase := by
  cases h <;> simp

/-- A payload byte is summed, and the rest of the phase is as it was. -/
theorem PayByte.engine {b : Byte} {s u : State} (h : PayByte b s u) :
    u.eng.acc = s.eng.acc + b ∧ u.eng.seq = s.eng.seq ∧ u.eng.negDrainL = s.eng.negDrainL ∧ u.eng.cnt = s.eng.cnt ∧
      u.eng.txi = s.eng.txi ∧ u.eng.latL = s.eng.latL ∧ u.eng.latSt = s.eng.latSt := by
  cases h <;> simp

theorem takePay_taken {b : Byte} {s : State} (hs : s.eng.seq = .rxPay) : Taken b s (takePay b s) := by
  have hu : PayByte b s (if (s.accumulate b).eng.latSt = Config.negCode then s.accumulate b
      else storePayload b (s.accumulate b)) := by
    split
    · exact .negative ‹_›
    · rename_i hn
      unfold storePayload
      split
      · rename_i hc
        exact .drained hn (Nat.le_of_lt_succ hc)
      · rename_i hc
        exact .stored hn (Nat.lt_of_not_le fun h => hc (Nat.lt_succ_of_le h))
  unfold takePay
  dsimp only
  generalize (if (s.accumulate b).eng.latSt = Config.negCode then s.accumulate b
      else storePayload b (s.accumulate b)) = u at hu
  have hcnt : u.eng.cnt = s.eng.cnt := hu.engine.2.2.2.1
  split
  · rename_i hl
    exact .payLast hs hu (by simpa [hcnt] using hl)
  · rename_i hl
    exact .payMore hs hu (by simpa [hcnt] using hl)

theorem takeByte_taken {b : Byte} {s : State} (h : s.eng.seq.reading = true) : Taken b s (takeByte b s) := by
  unfold takeByte
  split
  · rename_i hs
    simp [hs, Seq.reading] at h
  · rename_i hs
    simp [hs, Seq.reading] at h
  · rename_i hs
    unfold takeEcho
    split
    · rename_i hl
      exact .echoLast hs (by simpa using hl)
    · rename_i hl
      exact .echoMore hs (by simpa using hl)
  · exact .len ‹_›
  · rename_i hs
    unfold takeStat
    dsimp only
    split
    · rename_i hb
      exact .statNegative hs hb.1 hb.2
    · rename_i hb
      have hb : b = Config.negCode → s.eng.negDrainL = true := fun h => by
        cases hd : s.eng.negDrainL with
        | false => exact absurd ⟨h, hd⟩ hb
        | true => rfl
      unfold enterPay
      split
      · exact .statNoPayload hs hb ‹_›
      · exact .statPayload hs hb ‹_›
  · exact takePay_taken ‹_›
  · exact .csum ‹_›

end Sys2Proof.Machine
end

