-- ==== Sys2Proof/Laws/PerInstr.lean ====
section
/-! SUPPORT. What the fields of every command's word hold (R60, R62), one lemma a command. -/

namespace Sys2Proof.Laws.WordFields

/-- The word of a well-formed command has no reserved bit; a command other than DTC_VIEW and DTC_VIEW.IN has `IDX` and `SRC`
0; only DTC_VIEW.IN has `SRC = 1`; `OP` is 1 to 5; and a DTC_VIEW's `IDX` is its index. -/
def Statement (i : Instr) : Prop :=
  i.wf = true →
    reservedField (encode i) = 0 ∧ 1 ≤ (opField (encode i)).toNat ∧ (opField (encode i)).toNat ≤ 5 ∧
      (opField (encode i) ≠ 5 → idxField (encode i) = 0 ∧ srcField (encode i) = 0) ∧
      (srcField (encode i) = 1 ↔ i = .dtcViewIn) ∧
      (∀ idx, i = .dtcView idx → (idxField (encode i)).toNat = idx)

theorem encode : Statement .encode := by simp [Statement, Sys2Proof.encode]

theorem send : Statement .send := by simp [Statement, Sys2Proof.encode]

theorem readResp : Statement .readResp := by simp [Statement, Sys2Proof.encode]

theorem dtcDecode : Statement .dtcDecode := by simp [Statement, Sys2Proof.encode]

theorem dtcView (idx : Nat) : Statement (.dtcView idx) := by
  intro h
  have h : idx < 256 := by simpa [Instr.wf, idxFits] using h
  simpa [Sys2Proof.encode] using h

theorem dtcViewIn : Statement .dtcViewIn := by simp [Statement, Sys2Proof.encode]

end Sys2Proof.Laws.WordFields
end

