-- ==== Sys2Proof/Laws/Step.lean ====
section
/-! SUPPORT. What one step can do, said once. -/

namespace Sys2Proof.Machine

/-- What an event can do to a state. -/
inductive Effect (s : State) : State → Prop
  | read (addr : BitVec 12) (hr : s.env.rstN = true) : Effect s (answerRead addr s.leaveReset)
  | written {t : State} (hr : s.env.rstN = true) (w : Written s.leaveReset t) : Effect s t
  | arrived (b : Byte) : Effect s { s with env.rxStream := s.env.rxStream ++ [b] }
  | edge {t : State} (e : Edge s t) : Effect s t
  | pin (level : Bool) : Effect s (setRstPin level s)

/-- A Host access that has an effect is an aligned 32-bit one out of reset. -/
theorem hostAccess_next {size : AccessSize} {addr : BitVec 12} {effect : State → Host.Outcome State Fault Refusal}
    {s t : State} (h : hostAccess size addr effect s = .next t) :
    s.env.rstN = true ∧ size = .bits32 ∧ addr.toNat % 4 = 0 ∧ effect s.leaveReset = .next t := by
  unfold hostAccess at h
  split at h
  · cases h
  · split at h
    · cases h
    · split at h
      · cases h
      · simp_all

theorem handle_effect {e : Event} {s t : State} (h : handle e s = .next t) : Effect s t := by
  cases e with
  | hostRead size addr =>
    rw [handle] at h
    obtain ⟨hr, -, -, h⟩ := hostAccess_next h
    cases h
    exact .read addr hr
  | hostWrite size addr v =>
    rw [handle] at h
    obtain ⟨hr, -, -, h⟩ := hostAccess_next h
    exact .written hr (writeWord_written h)
  | rxArrive b =>
    cases h
    exact .arrived b
  | clkEdge rxValid txReady =>
    cases h
    exact .edge (clockEdge_edge rxValid txReady s)
  | rstPin level =>
    cases h
    exact .pin level

/-- A step waits, or handles the next event. -/
theorem step_effect {s t : State} (h : step s = .next t) :
    (s.env.pending = [] ∧ t = s) ∨ ∃ e rest, s.env.pending = e :: rest ∧ Effect (s.afterEvent rest) t := by
  unfold step stepEvent at h
  split at h
  · cases h
    exact .inl ⟨‹_›, rfl⟩
  · rename_i e rest hp
    exact .inr ⟨e, rest, hp, handle_effect h⟩

/-- An invariant that does not look at the pending events is kept by every step that keeps it over every effect. -/
theorem step_keeps {P : State → Prop} (hpop : ∀ s rest, P s → P (s.afterEvent rest))
    (heff : ∀ s t, P s → Effect s t → P t) {s t : State} (hs : P s) (h : step s = .next t) : P t := by
  rcases step_effect h with ⟨-, rfl⟩ | ⟨e, rest, -, he⟩
  · exact hs
  · exact heff _ _ (hpop _ _ hs) he

end Sys2Proof.Machine
end

