-- ==== Sys2Proof/Tests/Slice0.lean ====
section
/-! SUPPORT. Tests of one step on small states, with results from spec/95_test_vectors.md (each test names its vector) or
written out from the spec's encodings, and a witness for every statement that has hypotheses. -/

open Sys2Proof Sys2Proof.Machine

namespace Sys2Proof.Tests

/-! ## Helpers -/

/-- The next state of an outcome, or the reset state where there is none. -/
def after (o : Host.Outcome State Fault Refusal) : State :=
  match o with
  | .next t => t
  | .fault _ => State.reset
  | .refused _ => State.reset

/-- Whether an outcome is a next state. -/
def isNext (o : Host.Outcome State Fault Refusal) : Bool :=
  match o with
  | .next _ => true
  | .fault _ => false
  | .refused _ => false

/-- Bytes from an offset on, as memory cells. -/
def cells (base : Nat) (bytes : List Byte) : Memory := bytes.mapIdx fun i b => (base + i, b)

/-- The reset state with a request in its registers and in TXBUF. -/
def withRequest (sid : Byte) (p : List Byte) : State :=
  { State.reset with
    tx.sid := sid
    tx.plen := BitVec.ofNat 8 p.length
    mem := cells txbufBase p }

/-- The reset state after an Ok response with a payload. -/
def withPayload (p : List Byte) : State :=
  { State.reset with
    stat.outcome := .ok
    rx.plen := BitVec.ofNat 8 p.length
    mem := cells rxbufBase p }

/-- The reset state with what the outside does next. -/
def withEvents (es : List Event) : State := { State.reset with env.pending := es }

/-- The reset state in a phase of a command, with no byte left. -/
def inPhase (phase : Seq) : State := { State.reset with eng.seq := phase }

/-- The reset state in a phase of a command, with one byte left. -/
def atLastByte (phase : Seq) : State := { State.reset with eng.seq := phase, eng.cnt := 1 }

/-! ## Well-formedness -/

/-- The one check, `idxFits`: an index of 256 has no place in `IDX` (R60). -/
theorem test_wf_refuses_index_256 : (Instr.dtcView 256).wf = false := by decide

theorem test_wf_accepts_index_255 : (Instr.dtcView 255).wf = true := by decide

/-! ## Decoding: words written out from R60 to R63 -/

/-- Reserved 15 bits, SRC 0, IDX 0, OP 1. -/
theorem test_decode_encode : decode 0b000000000000000_0_00000000_00000001#32 = .ok .encode := by decide

theorem test_decode_send : decode 0b000000000000000_0_00000000_00000010#32 = .ok .send := by decide

theorem test_decode_readResp : decode 0b000000000000000_0_00000000_00000011#32 = .ok .readResp := by decide

theorem test_decode_dtcDecode : decode 0b000000000000000_0_00000000_00000100#32 = .ok .dtcDecode := by decide

/-- SRC 0, IDX 25, OP 5. -/
theorem test_decode_dtcView : decode 0b000000000000000_0_00011001_00000101#32 = .ok (.dtcView 25) := by decide

/-- SRC 1, IDX 0, OP 5. -/
theorem test_decode_dtcViewIn : decode 0b000000000000000_1_00000000_00000101#32 = .ok .dtcViewIn := by decide

/-- Each clause of R63 at its boundary. -/
theorem test_decode_illegal :
    decode 0x00000000 = .error .illegalOp ∧ decode 0x00000006 = .error .illegalOp ∧
    decode 0x000000FF = .error .illegalOp ∧ decode 0x00020001 = .error .reservedBits ∧
    decode 0x80000003 = .error .reservedBits ∧ decode 0x00000101 = .error .unusedField ∧
    decode 0x00010004 = .error .unusedField ∧ decode 0x00010105 = .error .unusedField := by decide

theorem test_decodeTableWord : decodeTableWord 32 0x1905 = some (.dtcView 25) ∧ decodeTableWord 32 0x10005 = some .dtcViewIn ∧
    decodeTableWord 32 0x6 = none := by decide

/-- The step after `withFetchWord` runs that command: here ENCODE of the empty request, V-E3. -/
theorem test_withFetchWord : (after (step (State.reset.withFetchWord 32 0x1))).tx.csum = 0x01 ∧
    (after (step (State.reset.withFetchWord 32 0x1))).stat.done = true := by decide +kernel

/-! ## Commands -/

/-- V-E1. -/
theorem test_encode_example :
    let t := after (exec .encode (withRequest 0x1A [0x9B]))
    t.tx = ⟨0x1A, 1, 0x02, 0xB7, 4⟩ ∧ readWord t 0x00C = 0x02 := by decide +kernel

/-- V-E4: the sum wraps. -/
theorem test_encode_wraps : (after (exec .encode (withRequest 0xFF [0xFF]))).tx = ⟨0xFF, 1, 0x02, 0x00, 4⟩ := by
  decide +kernel

/-- V-S3: the request registers hold the frame's values while SEND waits. -/
theorem test_send_waits :
    let t := after (exec .send (withRequest 0x1A [0x9B]))
    readWord t 0x00C = 0x01 ∧ t.tx = ⟨0x1A, 1, 0x02, 0xB7, 4⟩ ∧ t.txData = 0x02 := by decide +kernel

/-- V-E1 as SEND transmits it: the last byte is the checksum; the next step completes the command. -/
theorem test_send_last_byte :
    let s := { after (exec .send (withRequest 0x1A [0x9B])) with eng.cnt := 1, eng.txi := 3 }
    let t := clockEdge false true s
    t.env.txSent = [0xB7] ∧ t.txValid = false ∧ readWord t 0x00C = 0x01 ∧ readWord (clockEdge true true t) 0x00C = 0x02 ∧
      (clockEdge true true t).env.txSent = [0xB7] := by decide +kernel

/-- V-R9: the status byte of a negative response is the last one read; the next step completes the command. -/
theorem test_readResp_negative :
    let s := { inPhase .rxStat with
      eng.cnt := 1, eng.acc := 0x03, eng.latL := 0x03, env.rxStream := [0x7F, 0x1A, 0x12, 0xAE] }
    let t := clockEdge true true (clockEdge true false s)
    readWord (clockEdge true false s) 0x00C = 0x01 ∧ readWord t 0x00C = 0x202 ∧ t.rx = ⟨0, 0x50, 0x03, 0x7F, 0, 0x82, 0⟩ ∧ t.env.rxStream = [0x1A, 0x12, 0xAE] := by
  decide +kernel

/-- V-R13: the payload byte beyond `CAP` is not stored, and the read drains. -/
theorem test_readResp_overflows :
    let s := { inPhase .rxPay with
      rx.cap := 2, mem := cells rxbufBase [0x11, 0x22], eng.acc := 0x37, eng.latL := 4, eng.cnt := 1, eng.stored := 2,
      env.rxStream := [0x33, 0x6A] }
    let t := clockEdge true false s
    t.eng.drain = true ∧ t.eng.seq = .rxCsum ∧ t.eng.acc = 0x6A ∧ t.eng.stored = 2 ∧ t.mem = s.mem := by decide +kernel

/-- V-D5: three records declared, two present. -/
theorem test_dtcDecode_clamps :
    let t := after (exec .dtcDecode (withPayload [3, 1, 2, 3, 4, 5, 6]))
    readWord t 0x044 = 0x00030203 ∧ readWord t 0x300 = 0x030201 ∧ readWord t 0x304 = 0x060504 ∧ readWord t 0x308 = 0 := by
  decide +kernel

/-- V-D3: an empty payload. -/
theorem test_dtcDecode_empty : readWord (after (exec .dtcDecode (withPayload []))) 0x044 = 0x00030000 := by decide +kernel

/-- V-V17, after V-D1. -/
theorem test_dtcView_second :
    let s := after (exec .dtcDecode (withPayload [0x02, 0x01, 0x32, 0x24, 0x41, 0x00, 0x9B]))
    let t := after (exec (.dtcView 1) s)
    readWord t 0x050 = 0x434100 ∧ readWord t 0x054 = 0x30313043 ∧ readWord t 0x058 = 0x30 ∧ readWord t 0x05C = 0x95B ∧
      readWord t 0x00C = 0x102 := by decide +kernel

/-- V-V18, after V-D1. -/
theorem test_dtcView_bad_index :
    let s := after (exec .dtcDecode (withPayload [0x02, 0x01, 0x32, 0x24, 0x41, 0x00, 0x9B]))
    readWord (after (exec (.dtcView 2) s)) 0x00C = 0x152 := by decide +kernel

/-- V-V8. -/
theorem test_dtcViewIn_example :
    let t := after (exec .dtcViewIn { State.reset with view.input := ⟨0xAB, 0xCD, 0x02⟩ })
    readWord t 0x04C = 0x02CDAB ∧ readWord t 0x050 = 0x42ABCD ∧ readWord t 0x054 = 0x43423242 ∧ readWord t 0x058 = 0x44 ∧
      readWord t 0x05C = 0x022 := by decide +kernel

/-- V-V4. -/
theorem test_dtcViewIn_all_ones :
    readWord (after (exec .dtcViewIn { State.reset with view.input := ⟨0xFF, 0xFF, 0xFF⟩ })) 0x05C = 0xF5F := by decide +kernel

/-! ## The window -/

/-- V-R22: bits [31:8] of a write to `RX_CAP` are ignored. -/
theorem test_write_rxCap : readWord (after (writeWord 0x02C 0x1FF State.reset)) 0x02C = 0xFF := by decide +kernel

/-- R46: the lowest byte of the word is the byte at the lowest offset. -/
theorem test_write_txbuf :
    let t := after (writeWord 0x104 0x12345678 State.reset)
    t.txByte 4 = 0x78 ∧ t.txByte 7 = 0x12 ∧ readWord t 0x104 = 0x12345678 := by decide +kernel

/-- V-R25: a write to TXBUF while busy is dropped. -/
theorem test_write_txbuf_busy :
    let t := after (writeWord 0x100 0x12345678 (inPhase .rxPay))
    t.mem = [] ∧ readWord t 0x00C = 0x05 := by decide +kernel

/-- V-R28: `WERR` and `DONE` are cleared by the bits written 1. -/
theorem test_write_status :
    let s := { State.reset with stat := ⟨true, true, false, .none, .ok⟩ }
    readWord (after (writeWord 0x00C 0x4 s)) 0x00C = 0x102 ∧ readWord (after (writeWord 0x00C 0x6 s)) 0x00C = 0x100 := by
  decide +kernel

/-- Writing a cell twice keeps one cell, in order. -/
theorem test_memory_put : Memory.put (Memory.put (Memory.put [] 5 1) 3 2) 5 7 = [(3, 2), (5, 7)] := by decide

/-! ## Witnesses: command words -/

theorem witness_DecodeEncodeRoundTrip : (Instr.dtcView 255).wf = true := by decide

theorem witness_EncodeDecodeRoundTrip : decode 0x0000FF05 = .ok (.dtcView 255) := by decide

theorem witness_DecodeFollowsMatchAndMask_illegal :
    (0x00000000#32).toNat % 256 = 0 ∧ 6 ≤ (0x00000006#32).toNat % 256 ∧ 6 ≤ (0x000000FF#32).toNat % 256 := by decide

theorem witness_IllegalWordsRefused_illegal :
    State.reset.eng.seq = .idle ∧ illegalWord (0x00000000#32).toNat ∧ illegalWord (0x00000006#32).toNat ∧
    illegalWord (0x00020001#32).toNat ∧ illegalWord (0x00000101#32).toNat ∧ illegalWord (0x00010004#32).toNat ∧
    illegalWord (0x00010105#32).toNat := by
  simp [illegalWord, State.reset]

theorem witness_IllegalWordsRefused_legal :
    State.reset.eng.seq = .idle ∧ ¬ illegalWord (0x00000001#32).toNat ∧ ¬ illegalWord (0x0000FF05#32).toNat ∧
    ¬ illegalWord (0x00010005#32).toNat := by
  simp [illegalWord, State.reset]

/-- The smallest index of the third clause, with the largest `NEFF`. -/
theorem witness_IllegalWordsRefused_index :
    { State.reset with dtc.neff := 26 }.eng.seq = .idle ∧ ¬ illegalWord (0x00001A05#32).toNat ∧
    (0x00001A05#32).toNat % 256 = 5 ∧ (0x00001A05#32).toNat / 65536 % 2 = 0 ∧ 26 ≤ (0x00001A05#32).toNat / 256 % 256 ∧
    { State.reset with dtc.neff := 26 }.dtc.neff.toNat ≤ 26 := by
  simp [illegalWord, State.reset]

/-! ## Witnesses: steps and submission -/

theorem witness_StepRunsSubmittedCommand :
    (withEvents [submission 0x00010005]).env.pending = submission 0x00010005 :: [] ∧
    (withEvents [submission 0x00010005]).env.rstN = true ∧ decode 0x00010005 = .ok .dtcViewIn := by decide +kernel

theorem witness_BusyCommandDropped : (inPhase .tx).eng.seq ≠ .idle := by decide

theorem witness_RefusalChangesOnlyErrAndDone :
    ∃ t, State.reset.eng.seq = .idle ∧ writeCmd 0 State.reset = .next t ∧ t.stat.err ≠ .none :=
  ⟨_, rfl, rfl, by decide⟩

theorem witness_ErrReportsFirstFailingCheck : ∃ t, State.reset.eng.seq = .idle ∧ writeCmd 5 State.reset = .next t :=
  ⟨_, rfl, rfl⟩

theorem witness_StalledTransferWaits_tx :
    { atLastByte .tx with env.pending := [.clkEdge true false] }.env.pending = [.clkEdge true false] ∧
    (atLastByte .tx).env.held = false ∧ (atLastByte .tx).eng.seq = .tx ∧ (atLastByte .tx).eng.cnt ≠ 0 := by decide

theorem witness_StalledTransferWaits_rx :
    { atLastByte .rxCsum with env.pending := [.clkEdge true true] }.env.pending = [.clkEdge true true] ∧
    (atLastByte .rxCsum).env.held = false ∧ (atLastByte .rxCsum).eng.seq.reading = true ∧
    (atLastByte .rxCsum).transfersDone = false ∧ (atLastByte .rxCsum).env.rxStream = [] := by decide

theorem witness_StalledTransferWaits_idle :
    (withEvents [.clkEdge true true]).env.pending = [.clkEdge true true] ∧ (withEvents [.clkEdge true true]).env.held = false ∧
    (withEvents [.clkEdge true true]).eng.seq = .idle := by decide

/-- The last byte of a frame is received. -/
theorem witness_TransferLeavesResultsToCompletion_received :
    let s := { atLastByte .rxCsum with env.rxStream := [0x6A], env.pending := [.clkEdge true false] }
    isNext (step s) = true ∧ (after (step s)).env.rxStream ≠ s.env.rxStream := by decide +kernel

/-- The last byte of a frame is sent. -/
theorem witness_TransferLeavesResultsToCompletion_sent :
    let s := { atLastByte .tx with env.pending := [.clkEdge false true] }
    isNext (step s) = true ∧ (after (step s)).env.txSent ≠ s.env.txSent := by
  refine ⟨by decide +kernel, ?_⟩
  exact List.cons_ne_nil _ _

theorem witness_CompletionIsOneStep :
    ∀ phase, phase = Seq.tx ∨ phase = .rxStat ∨ phase = .rxCsum →
      ({ inPhase phase with env.pending := [.clkEdge true true] } : State).env.pending = [.clkEdge true true] ∧
      (inPhase phase).env.rstN = true ∧ (inPhase phase).env.held = false ∧ (inPhase phase).eng.cnt = 0 ∧
      (inPhase phase).eng.seq = phase := fun _ _ => ⟨rfl, rfl, rfl, rfl, rfl⟩

/-! ## Witnesses: ENCODE and SEND -/

theorem witness_RequestChecksumFormula : (List.replicate 254 (0xFF : Byte)).length ≤ 254 := List.length_replicate.le

/-- Of EncodeWritesRequestRegisters and SendStartsTransmission: the longest payload. -/
theorem witness_EncodeWritesRequestRegisters :
    (withRequest 0 (List.replicate 254 0xFF)).eng.seq = .idle ∧ (withRequest 0 (List.replicate 254 0xFF)).tx.plen.toNat ≤ 254 := by
  decide +kernel

theorem witness_SendStartsTransmission :
    (withRequest 0 []).eng.seq = .idle ∧ (withRequest 0 []).tx.plen.toNat ≤ 254 ∧ (withRequest 0 []).inReset = false := by
  decide +kernel

theorem witness_EncodeAndSendRefuseLength255 :
    { State.reset with tx.plen := 255 }.eng.seq = .idle ∧ { State.reset with tx.plen := 255 }.tx.plen.toNat = 255 := by decide

/-- Edges that take `n` bytes, each after an edge at which nothing moves. -/
def slowEdges (n : Nat) : List (Bool × Bool) := (List.replicate n [(false, false), (true, true)]).flatten

/-- The edge at which a command completes. -/
def lastEdge : Bool × Bool := (false, false)

/-- A request whose SEND is submitted, with the edges its transmission and completion need. -/
def sending (sid : Byte) (p : List Byte) : State :=
  { withRequest sid p with env.pending := submission 0x00000002 :: (clockEdges (slowEdges (p.length + 3) ++ [lastEdge]) ++ []) }

theorem witness_SendTransmitsRequestFrame :
    (sending 0x1A [0x9B]).eng.seq = .idle ∧ (sending 0x1A [0x9B]).env.rstN = true ∧ (sending 0x1A [0x9B]).tx.plen.toNat ≤ 254 ∧
    (sending 0x1A [0x9B]).env.pending = submission 0x00000002 :: (clockEdges (slowEdges 4 ++ [lastEdge]) ++ []) ∧
    (sending 0x1A [0x9B]).tx.plen.toNat + 3 ≤ takenUp (slowEdges 4) := by decide +kernel

theorem witness_SentFrameRecoversService :
    (sending 0xFF [0xFF]).eng.seq = .idle ∧ (sending 0xFF [0xFF]).env.rstN = true ∧ [(0xFF : Byte)].length ≤ 254 ∧
    (sending 0xFF [0xFF]).tx.sid = 0xFF ∧ (sending 0xFF [0xFF]).tx.plen.toNat = [(0xFF : Byte)].length ∧
    (sending 0xFF [0xFF]).txPayload = [0xFF] ∧
    (sending 0xFF [0xFF]).env.pending = submission 0x00000002 :: (clockEdges (slowEdges 4) ++ clockEdges [lastEdge]) ∧
    [(0xFF : Byte)].length + 3 ≤ takenUp (slowEdges 4) := by decide +kernel

/-! ## Witnesses: READ_RESP -/

theorem witness_ReadRespStartsReading_no_echo :
    State.reset.eng.seq = .idle ∧ State.reset.rx.cap.toNat ≤ 80 ∧ State.reset.rx.echoLen = 0 ∧ State.reset.inReset = false := by
  decide

theorem witness_ReadRespStartsReading_echo :
    { State.reset with rx.echoLen := 0xFFFF }.eng.seq = .idle ∧ { State.reset with rx.echoLen := 0xFFFF }.rx.cap.toNat ≤ 80 ∧
    { State.reset with rx.echoLen := 0xFFFF }.rx.echoLen ≠ 0 := by decide

theorem witness_ReadRespRefusesCapacityAbove80 :
    { State.reset with rx.cap := 81 }.eng.seq = .idle ∧ 80 < { State.reset with rx.cap := 81 }.rx.cap.toNat := by decide

/-- A READ_RESP is submitted, with a receive stream, the edges that offer `n` of its bytes, and one more. -/
def reading (cap echo : Nat) (drain : Bool) (stream : List Byte) (n : Nat) : State :=
  { State.reset with
    ctrl.negDrain := drain
    rx.cap := BitVec.ofNat 8 cap
    rx.echoLen := BitVec.ofNat 16 echo
    env.rxStream := stream
    env.pending := submission 0x00000003 :: (clockEdges (slowEdges n ++ [lastEdge]) ++ []) }

/-- The frame of V-R1, with its echo and a byte that follows it. -/
def stream1 : List Byte := [0x02, 0x1A, 0x9B, 0xB7, 0x04, 0x00, 0x11, 0x22, 0x33, 0x6A, 0x55]

/-- Ok: `P <= CAP` and the checksum is right. -/
theorem witness_ReadRespReadsPositiveFrame_ok :
    let s := reading 3 4 false stream1 10
    s.eng.seq = .idle ∧ s.env.rstN = true ∧ s.rx.cap.toNat ≤ 80 ∧
    s.env.pending = submission 0x00000003 :: (clockEdges (slowEdges 10 ++ [lastEdge]) ++ []) ∧
    s.env.rxStream = [0x02, 0x1A, 0x9B, 0xB7] ++ 0x04 :: 0x00 :: ([0x11, 0x22, 0x33] ++ 0x6A :: [0x55]) ∧
    [(0x02 : Byte), 0x1A, 0x9B, 0xB7].length = s.rx.echoLen.toNat ∧
    [(0x11 : Byte), 0x22, 0x33].length = (if (0x04 : Byte) = 0 then 0 else (0x04 : Byte).toNat - 1) ∧ (0x00 : Byte) ≠ 0x7F ∧
    [(0x02 : Byte), 0x1A, 0x9B, 0xB7].length + [(0x11 : Byte), 0x22, 0x33].length + 3 ≤ offered (slowEdges 10) ∧
    0x6A = responseChecksum 0x04 0x00 [0x11, 0x22, 0x33] := by decide +kernel

/-- Overflow: `P = CAP + 1`, as V-R13. -/
theorem witness_ReadRespReadsPositiveFrame_overflow :
    let s := reading 2 0 false [0x04, 0x00, 0x11, 0x22, 0x33, 0x6A] 6
    s.eng.seq = .idle ∧ s.env.rstN = true ∧ s.rx.cap.toNat ≤ 80 ∧
    s.env.pending = submission 0x00000003 :: (clockEdges (slowEdges 6 ++ [lastEdge]) ++ []) ∧
    s.env.rxStream = [] ++ 0x04 :: 0x00 :: ([0x11, 0x22, 0x33] ++ 0x6A :: []) ∧ ([] : List Byte).length = s.rx.echoLen.toNat ∧
    [(0x11 : Byte), 0x22, 0x33].length = (if (0x04 : Byte) = 0 then 0 else (0x04 : Byte).toNat - 1) ∧ (0x00 : Byte) ≠ 0x7F ∧
    ([] : List Byte).length + [(0x11 : Byte), 0x22, 0x33].length + 3 ≤ offered (slowEdges 6) ∧
    s.rx.cap.toNat < [(0x11 : Byte), 0x22, 0x33].length := by decide +kernel

/-- ChecksumMismatch with `L = 0`, as V-R6. -/
theorem witness_ReadRespReadsPositiveFrame_mismatch :
    let s := reading 80 0 false [0x00, 0x12, 0x00] 3
    s.eng.seq = .idle ∧ s.env.rstN = true ∧ s.rx.cap.toNat ≤ 80 ∧
    s.env.pending = submission 0x00000003 :: (clockEdges (slowEdges 3 ++ [lastEdge]) ++ []) ∧
    s.env.rxStream = [] ++ 0x00 :: 0x12 :: ([] ++ 0x00 :: []) ∧ ([] : List Byte).length = s.rx.echoLen.toNat ∧
    ([] : List Byte).length = (if (0x00 : Byte) = 0 then 0 else (0x00 : Byte).toNat - 1) ∧ (0x12 : Byte) ≠ 0x7F ∧
    ([] : List Byte).length + ([] : List Byte).length + 3 ≤ offered (slowEdges 3) ∧ 0x00 ≠ responseChecksum 0x00 0x12 [] := by
  decide +kernel

/-- V-R9. -/
theorem witness_ReadRespStopsAtNegativeStatus :
    let s := reading 80 0 false [0x03, 0x7F, 0x1A, 0x12, 0xAE] 2
    s.eng.seq = .idle ∧ s.env.rstN = true ∧ s.rx.cap.toNat ≤ 80 ∧ s.ctrl.negDrain = false ∧
    s.env.pending = submission 0x00000003 :: (clockEdges (slowEdges 2 ++ [lastEdge]) ++ []) ∧
    s.env.rxStream = [] ++ 0x03 :: 0x7F :: [0x1A, 0x12, 0xAE] ∧ ([] : List Byte).length = s.rx.echoLen.toNat ∧
    ([] : List Byte).length + 2 ≤ offered (slowEdges 2) := by decide +kernel

/-- V-R10. -/
theorem witness_ReadRespDrainsNegativeFrame :
    let s := reading 80 0 true [0x03, 0x7F, 0x1A, 0x12, 0xAE] 5
    s.eng.seq = .idle ∧ s.env.rstN = true ∧ s.rx.cap.toNat ≤ 80 ∧ s.ctrl.negDrain = true ∧
    s.env.pending = submission 0x00000003 :: (clockEdges (slowEdges 5 ++ [lastEdge]) ++ []) ∧
    s.env.rxStream = [] ++ 0x03 :: 0x7F :: ([0x1A, 0x12] ++ 0xAE :: []) ∧ ([] : List Byte).length = s.rx.echoLen.toNat ∧
    [(0x1A : Byte), 0x12].length = (if (0x03 : Byte) = 0 then 0 else (0x03 : Byte).toNat - 1) ∧
    ([] : List Byte).length + [(0x1A : Byte), 0x12].length + 3 ≤ offered (slowEdges 5) := by decide +kernel

/-! ## Witnesses: the DTC commands -/

theorem witness_DtcDecodeWritesTable_empty :
    (withPayload []).eng.seq = .idle ∧ (withPayload []).stat.outcome = .ok ∧ (withPayload []).rx.plen.toNat = 0 := by decide +kernel

theorem witness_DtcDecodeWritesTable_full :
    (withPayload (List.replicate 80 0xFF)).eng.seq = .idle ∧ (withPayload (List.replicate 80 0xFF)).stat.outcome = .ok ∧
    (withPayload (List.replicate 80 0xFF)).rx.plen.toNat = 80 := by decide +kernel

theorem witness_DtcDecodeRefusesWithoutOk :
    { State.reset with stat.outcome := .csumMismatch }.eng.seq = .idle ∧
    { State.reset with stat.outcome := .csumMismatch }.stat.outcome ≠ .ok := by decide

/-- Two states whose RXBUF differs beyond the payload. -/
theorem witness_DtcDecodeReadsOnlyPayload :
    let s := withPayload [1, 2, 3, 4]
    let s' := { withPayload [1, 2, 3, 4, 9] with rx.plen := 4 }
    s.eng.seq = .idle ∧ s'.eng.seq = .idle ∧ s.stat.outcome = .ok ∧ s'.stat.outcome = .ok ∧ s'.rx.plen = s.rx.plen ∧
    (∀ i < 4, s'.rxCell i = s.rxCell i) ∧ s.rx.plen.toNat = 4 ∧ s'.mem ≠ s.mem ∧
    isNext (exec .dtcDecode s) = true ∧ isNext (exec .dtcDecode s') = true := by decide +kernel

theorem witness_DtcDecodeReadsOnlyPayload_empty :
    let s := withPayload []
    let s' := { withPayload [9] with rx.plen := 0 }
    s.eng.seq = .idle ∧ s'.eng.seq = .idle ∧ s.stat.outcome = .ok ∧ s'.stat.outcome = .ok ∧ s'.rx.plen = s.rx.plen ∧
    s.rx.plen.toNat = 0 ∧ isNext (exec .dtcDecode s) = true ∧ isNext (exec .dtcDecode s') = true := by decide +kernel

theorem witness_DtcDecodeRepeats :
    ∃ t, (withPayload [1, 2, 3, 4]).eng.seq = .idle ∧ (withPayload [1, 2, 3, 4]).stat.outcome = .ok ∧
      exec .dtcDecode (withPayload [1, 2, 3, 4]) = .next t := ⟨_, rfl, rfl, rfl⟩

/-- The last record of a full table. -/
theorem witness_DtcViewRendersTableRecord :
    let s := { State.reset with dtc := ⟨26, 26, false, true⟩ }
    s.eng.seq = .idle ∧ s.dtc.valid = true ∧ 25 < s.dtc.neff.toNat ∧ s.dtc.neff.toNat ≤ 26 := by decide

theorem witness_DtcViewRefusesBadIndex_invalid : State.reset.eng.seq = .idle ∧ State.reset.dtc.valid = false := by decide

theorem witness_DtcViewRefusesBadIndex_index :
    let s := { State.reset with dtc := ⟨26, 26, false, true⟩ }
    s.eng.seq = .idle ∧ s.dtc.valid = true ∧ s.dtc.neff.toNat ≤ 26 := by decide

theorem witness_DtcViewInRendersInput : State.reset.eng.seq = .idle := by decide

theorem witness_CodeDeterminesRecord : toCode 0x41 0x00 = toCode 0x41 0x00 := rfl

theorem witness_SymptomClassesOfNibbles : State.reset.params.symptomCodes = Config.defaultSymptomCodes := rfl

/-! ## Witnesses: the window -/

theorem witness_HostReadChangesNothing :
    let s := withEvents [.hostRead .bits32 0xFFC]
    s.env.pending = .hostRead .bits32 0xFFC :: [] ∧ s.env.rstN = true ∧ (0xFFC#12).toNat % 4 = 0 := by decide +kernel

theorem witness_MeaninglessAccessesRefused_size :
    AccessSize.bits16 ≠ .bits32 ∧ (withEvents [.hostRead .bits16 0]).env.pending = .hostRead .bits16 0 :: [] := by decide +kernel

theorem witness_MeaninglessAccessesRefused_alignment :
    (0x101#12).toNat % 4 ≠ 0 ∧ (withEvents [.hostWrite .bits32 0x101 1]).env.pending = .hostWrite .bits32 0x101 1 :: [] := by
  decide +kernel

theorem witness_MeaninglessAccessesRefused_reset :
    let s := { withEvents [.hostRead .bits32 0] with env.rstN := false, env.held := true }
    s.env.rstN = false ∧ s.env.pending = .hostRead .bits32 0 :: [] := by decide +kernel

theorem witness_OffsetsNameDistinctTargets :
    (0x364#12).toNat % 4 = 0 ∧ targetAt 0x364 = targetAt 0x364 ∧ targetAt 0x364 ≠ .reserved := by
  decide +kernel

/-- The reserved gaps, the read-only registers and the read-only buffers at their ends. -/
theorem witness_ReservedReadsZeroWritesIgnored :
    (0x0FC#12).toNat % 4 = 0 ∧ (0x250#12).toNat % 4 = 0 ∧ (0x2FC#12).toNat % 4 = 0 ∧ (0x368#12).toNat % 4 = 0 ∧
    (0xFFC#12).toNat % 4 = 0 ∧ (0x05C#12).toNat % 4 = 0 ∧ (0x24C#12).toNat % 4 = 0 ∧ (0x364#12).toNat % 4 = 0 := by decide

theorem witness_ControlWriteStoresEnables : (0xFFFFFFFB#32).getLsbD 2 = false := by decide

theorem witness_OperandWritesReadBack : State.reset.eng.seq = .idle := by decide

theorem witness_BuffersPackLittleEndian_txbuf : State.reset.eng.seq = .idle ∧ (0x1FC#12).toNat = 0x100 + 4 * 63 := by decide

theorem witness_BuffersPackLittleEndian_rxbuf :
    (withPayload (List.replicate 80 1)).eng.seq = .idle ∧ 79 < (withPayload (List.replicate 80 1)).rx.plen.toNat ∧
    (0x24C#12).toNat = 0x200 + 4 * (79 / 4) := by decide +kernel

theorem witness_BuffersPackLittleEndian_dtcTab : (0x364#12).toNat = 0x300 + 4 * 25 := by decide

theorem witness_BusyLockDropsWrites_dropped :
    (inPhase .rxEcho).eng.seq ≠ .idle ∧ (0x1FC#12).toNat % 4 = 0 ∧ 0x100 ≤ (0x1FC#12).toNat ∧ (0x1FC#12).toNat < 0x200 := by decide

theorem witness_BusyLockDropsWrites_served : (0x00000003#32).getLsbD 2 = false := by decide

theorem witness_BusyLockDropsWrites_softReset : (0x00000007#32).getLsbD 2 = true := by decide

theorem witness_BusyLockDropsWrites_read :
    let s := { inPhase .rxPay with env.pending := [.hostRead .bits32 0x200] }
    s.eng.seq ≠ .idle ∧ s.inReset = false ∧ (0x200#12).toNat % 4 = 0 ∧ s.env.pending = [.hostRead .bits32 0x200] := by
  decide +kernel

theorem witness_BusyLockDropsWrites_cleared :
    let s := { withEvents [.hostWrite .bits32 0x00C 4] with stat.werr := true }
    isNext (step s) = true ∧ s.stat.werr = true ∧ (after (step s)).stat.werr = false := by decide +kernel

theorem witness_InterruptFollowsDone_write :
    ∃ t, (0x00000002#32).getLsbD 1 = true ∧ writeWord 0x00C 2 { State.reset with stat.done := true, ctrl.irqEn := true } = .next t :=
  ⟨_, by decide, rfl⟩

theorem witness_InterruptFollowsDone_illegal :
    isNext (writeCmd 0 State.reset) = true ∧ (after (writeCmd 0 State.reset)).eng.seq = .idle := by decide +kernel

theorem witness_InterruptFollowsDone_later :
    let s := { inPhase .tx with env.pending := [.clkEdge false false] }
    s.eng.seq ≠ .idle ∧ isNext (step s) = true ∧ (after (step s)).eng.seq = .idle := by decide +kernel

theorem witness_InterruptFollowsDone_stays :
    let s := { atLastByte .tx with env.pending := [.clkEdge false true] }
    s.eng.seq ≠ .idle ∧ isNext (step s) = true ∧ (after (step s)).eng.seq ≠ .idle := by decide +kernel

theorem witness_InterruptFollowsDone_complete :
    isNext (exec .encode State.reset) = true ∧ State.reset.eng.seq = .idle ∧ (after (exec .encode State.reset)).eng.seq = .idle := by
  decide +kernel

theorem witness_InterruptFollowsDone_running :
    isNext (exec .send State.reset) = true ∧ State.reset.eng.seq = .idle ∧ (after (exec .send State.reset)).eng.seq ≠ .idle := by
  decide +kernel

/-! ## Witnesses: reset, invariants, whole-machine rules -/

theorem witness_SoftResetRestores : (0x00000007#32).getLsbD 2 = true := by decide

theorem witness_ResetPinHoldsReset_low : (setRstPin false State.reset).env.rstN = false := by decide +kernel

theorem witness_ResetPinHoldsReset_released :
    (setRstPin true (setRstPin false State.reset)).env.rstN = true ∧ (setRstPin true (setRstPin false State.reset)).env.held = true := by
  decide +kernel

/-- A SEND at its last byte: the invariant of the memory holds, and a step is made. -/
theorem witness_StepKeepsMemoryForm :
    let s := { State.reset with mem := [(0x100, 1), (0x24F, 2)], env.pending := [.hostWrite .bits32 0x1FC 7] }
    s.memoryOk ∧ isNext (step s) = true := by
  refine ⟨⟨by decide, by decide⟩, by decide +kernel⟩

/-- In the midst of a SEND: the length byte is on the line. -/
theorem witness_StepKeepsSentFrame :
    let s := { withRequest 0x1A [0x9B] with
      tx := ⟨0x1A, 1, 2, 0xB7, 4⟩, eng.seq := .tx, eng.cnt := 3, eng.txi := 1, env.txSent := [0x02],
      env.pending := [.clkEdge false true] }
    s.sendOk ∧ s.eng.seq = .tx ∧ isNext (step s) = true :=
  ⟨fun _ => ⟨by decide +kernel, by decide +kernel, by decide +kernel, by decide +kernel, by decide +kernel,
    [], by decide +kernel⟩, by decide +kernel, by decide +kernel⟩

/-- A state after V-R5, which the invariants of the control and of the reader admit. -/
def afterRead : State :=
  { State.reset with
    stat := ⟨true, false, true, .none, .ok⟩
    rx := ⟨0, 0x50, 0, 0x12, 0, 0x12, 0x12⟩
    env.pending := [submission 0x00000003] }

theorem witness_StepKeepsControl : afterRead.ControlOk ∧ isNext (step afterRead) = true := by
  refine ⟨?_, by decide +kernel⟩
  constructor <;> simp [afterRead, State.reset, Seq.reading]

theorem witness_StepKeepsReadPlace : afterRead.ControlOk ∧ afterRead.ReadOk ∧ isNext (step afterRead) = true := by
  refine ⟨witness_StepKeepsControl.1, ?_, by decide +kernel⟩
  constructor <;>
    simp [afterRead, State.reset, payloadCount, State.rxWritten, responseChecksum, State.rxStored]

/-- V-R9's last step. -/
theorem witness_OutcomeChangesOnlyByReadResp_finished :
    let s := { inPhase .rxStat with eng.acc := 0x82, eng.latL := 3, eng.latSt := 0x7F, env.pending := [.clkEdge true false] }
    isNext (step s) = true ∧ (after (step s)).stat.outcome ≠ s.stat.outcome := by decide +kernel

theorem witness_OutcomeChangesOnlyByReadResp_accepted :
    isNext (step afterRead) = true ∧ (after (step afterRead)).stat.outcome ≠ afterRead.stat.outcome := by decide +kernel

/-- A write to the word of `TXBUF[252 .. 255]`. -/
theorem witness_TxbufChangesOnlyByHostWrite :
    let s := { State.reset with mem := [(0x1FF, 1)], env.pending := [.hostWrite .bits32 0x1FC 0x22000000] }
    isNext (step s) = true ∧ (after (step s)).txByte 255 ≠ s.txByte 255 := by decide +kernel

theorem witness_BytesMoveOnlyInTheirCommands :
    isNext (step { inPhase .rxLen with env.rxStream := [4], env.pending := [.clkEdge true false] }) = true := by decide +kernel

/-- Hidden values left by an earlier command. -/
theorem witness_HiddenStateUnreadWhileIdle :
    ∃ t, State.reset.eng.seq = .idle ∧ (Engine.mk .idle true true 9 0 80 5 4 0x7F 0x6A).seq = .idle ∧
      exec .send State.reset = .next t := ⟨_, rfl, rfl, rfl⟩

end Sys2Proof.Tests
end

/-! PROOFS. The scope rules R6 and R7 at a clock edge: a transfer held back changes nothing, a transfer leaves every result to
the completion, and the completion is one step. -/

namespace Sys2Proof.Machine

/-! ## One clock edge -/

theorem step_clkEdge {s : State} {rxValid txReady : Bool} {rest : List Event}
    (h : s.env.pending = .clkEdge rxValid txReady :: rest) :
    step s = .next (clockEdge rxValid txReady (s.afterEvent rest)) := by
  simp [step, stepEvent, h, handle]

theorem inReset_eq_false {s : State} : s.inReset = false ↔ s.env.rstN = true ∧ s.env.held = false := by
  simp [State.inReset]

/-- While `rst_n` is 0 a clock edge does not end the reset (R109). -/
theorem clockEdge_rstN_low {rxValid txReady : Bool} {s : State} (h : s.env.rstN = false) :
    clockEdge rxValid txReady s = s := by
  simp [clockEdge, State.inReset, h]

theorem clockEdge_completes {rxValid txReady : Bool} {s : State} (hr : s.inReset = false)
    (hd : s.transfersDone = true) : clockEdge rxValid txReady s = completion s := by
  simp [clockEdge, hr, hd]

/-- Out of reset with bytes left, the phase alone says which port is active (R49). -/
theorem clockEdge_transfers {rxValid txReady : Bool} {s : State} (hr : s.inReset = false)
    (hd : s.transfersDone = false) :
    clockEdge rxValid txReady s =
      if s.eng.seq = .tx then (if txReady then txTransfer s.freshDraw else s)
      else if s.eng.seq.reading then receiveEdge rxValid s else s := by
  simp [clockEdge, State.txValid, State.rxReady, hr, hd]

/-! ## A stalled transfer -/

theorem receiveEdge_noByte {rxValid : Bool} {s : State} (h : rxValid = false ∨ s.env.rxStream = []) :
    receiveEdge rxValid s = s := by
  unfold receiveEdge
  split
  · rename_i hs
    simp [hs] at h
  · rfl
  · rfl

/-- No completion is due, and the other side of the active port, if there is one, holds the byte back. -/
theorem clockEdge_stalled {rxValid txReady : Bool} {s : State} (hh : s.env.held = false)
    (hd : s.transfersDone = false) (htx : s.eng.seq = .tx → txReady = false)
    (hrx : s.eng.seq.reading = true → rxValid = false ∨ s.env.rxStream = []) :
    clockEdge rxValid txReady s = s := by
  cases hn : s.env.rstN with
  | false => exact clockEdge_rstN_low hn
  | true =>
    rw [clockEdge_transfers (inReset_eq_false.2 ⟨hn, hh⟩) hd]
    split
    · rename_i hs
      simp [htx hs]
    · split
      · rename_i hs
        exact receiveEdge_noByte (hrx hs)
      · rfl

theorem transfersDone_idle {s : State} (h : s.eng.seq = .idle) : s.transfersDone = false := by
  simp [State.transfersDone, h, Seq.completes]

/-- A step whose clock edge is stalled takes its event from the list and does nothing else (R7). -/
theorem step_stalled {s : State} {rxValid txReady : Bool} {rest : List Event}
    (hp : s.env.pending = .clkEdge rxValid txReady :: rest) (hh : s.env.held = false) (hd : s.transfersDone = false)
    (htx : s.eng.seq = .tx → txReady = false)
    (hrx : s.eng.seq.reading = true → rxValid = false ∨ s.env.rxStream = []) :
    step s = .next (s.afterEvent rest) := by
  rw [step_clkEdge hp, clockEdge_stalled (s := s.afterEvent rest) hh hd htx hrx]

/-- Settles O10: each of its three cases is a `step_stalled`. -/
theorem stalledTransferWaits : Obligations.StalledTransferWaits := by
  intro s rest rxValid txReady hp hh
  refine ⟨fun hs hc hready => ?_, fun hs hd hbyte => ?_, fun hs => ?_⟩
  · exact step_stalled hp hh (transfersDone_eq_false hc) (fun _ => hready) (by simp [hs, Seq.reading])
  · exact step_stalled hp hh hd (fun h => by simp [h, Seq.reading] at hs) (fun _ => hbyte)
  · exact step_stalled hp hh (transfersDone_idle hs) (by simp [hs]) (by simp [hs, Seq.reading])

/-! ## A transferred byte -/

/-- What the Host reads of results and settings, other than `BUSY` and the buffers, is the same in both states. -/
structure SameResults (s t : State) : Prop where
  stat : t.stat = s.stat
  ctrl : t.ctrl = s.ctrl
  tx : t.tx = s.tx
  rx : t.rx = s.rx
  dtc : t.dtc = s.dtc
  view : t.view = s.view
  dtcTab : t.dtcTab = s.dtcTab
  params : t.params = s.params

/-- Only the Sequencer's hidden values differ. -/
theorem SameResults.setEng {s t : State} (h : SameResults s t) (e : Engine) : SameResults s { t with eng := e } :=
  ⟨h.stat, h.ctrl, h.tx, h.rx, h.dtc, h.view, h.dtcTab, h.params⟩

theorem PayByte.sameResults {b : Byte} {s u : State} (h : PayByte b s u) : SameResults s u := by
  obtain ⟨hctrl, hstat, htx, hrx, hdtc, hview, htab, hparams, -, -⟩ := h.same
  exact ⟨hstat, hctrl, htx, hrx, hdtc, hview, htab, hparams⟩

/-- A received byte moves the Sequencer only (R53). -/
theorem Taken.sameResults {b : Byte} {s t : State} (h : Taken b s t) : SameResults s t := by
  cases h
  case payLast hu _ => exact hu.sameResults.setEng _
  case payMore hu _ => exact hu.sameResults.setEng _
  all_goals exact ⟨rfl, rfl, rfl, rfl, rfl, rfl, rfl, rfl⟩

/-- No received byte ends the command: its completion is a step of its own (R6). -/
theorem Taken.busy {b : Byte} {s t : State} (h : Taken b s t) : t.busy = true := by
  rw [busy_eq_true]
  cases h
  case payMore hs hu _ => simp [hu.engine.2.1, hs]
  all_goals simp [enterLen, enterCsum, afterStat, *]

theorem rxTransfer_taken {b : Byte} {s : State} (h : s.eng.seq.reading = true) :
    Taken b s.freshDraw (rxTransfer b s) := takeByte_taken h

/-- Of what a clock edge can do, only the two transfers move a byte, and neither completes the command. -/
theorem Edge.transfer_keeps {s t : State} (h : Edge s t)
    (hm : t.env.rxStream ≠ s.env.rxStream ∨ t.env.txSent ≠ s.env.txSent) : t.busy = true ∧ SameResults s t := by
  cases h with
  | nothing => simp at hm
  | leaves _ => simp at hm
  | sent _ hs _ => exact ⟨by simp [txTransfer, hs], rfl, rfl, rfl, rfl, rfl, rfl, rfl, rfl⟩
  | received b rest _ hs _ _ =>
    have ht := rxTransfer_taken (b := b) (s := { s with env.rxStream := rest }) hs
    obtain ⟨hstat, hctrl, htx, hrx, hdtc, hview, htab, hparams⟩ := ht.sameResults
    exact ⟨ht.busy, hstat, hctrl, htx, hrx, hdtc, hview, htab, hparams⟩
  | completesSend _ _ _ => simp [completeSend] at hm
  | completesShort _ _ _ => simp [finishShort] at hm
  | completesFrame _ _ _ => simp [finishFrame] at hm

/-- Settles O11, by what a clock edge can do (`Edge`). -/
theorem transferLeavesResultsToCompletion : Obligations.TransferLeavesResultsToCompletion := by
  intro s t rxValid txReady rest hp hstep hm
  rw [step_clkEdge hp] at hstep
  cases hstep
  obtain ⟨hbusy, hsame⟩ := (clockEdge_edge rxValid txReady (s.afterEvent rest)).transfer_keeps hm
  exact ⟨hbusy, hsame.stat, hsame.ctrl, hsame.tx, hsame.rx, hsame.dtc, hsame.view, hsame.dtcTab, hsame.params⟩

/-! ## The completion -/

/-- The payload bytes a whole frame leaves valid, by its status and by whether the buffer overflowed (R84). -/
theorem validCount_csumOutcome (s : State) (r : Byte) :
    s.validCount (s.csumOutcome r) =
      if s.eng.latSt = Config.negCode ∨ s.eng.drain = true then 0 else s.eng.stored.setWidth 8 := by
  unfold State.csumOutcome
  by_cases hn : s.eng.latSt = Config.negCode
  · simp [hn, State.validCount]
  · cases hd : s.eng.drain with
    | true => simp [hn, State.validCount]
    | false => by_cases hr : r = s.eng.acc <;> simp [hn, hr, State.validCount]

/-- The first clock edge out of reset with no byte left is the completion. -/
theorem step_completes {s : State} {rxValid txReady : Bool} {rest : List Event}
    (hp : s.env.pending = .clkEdge rxValid txReady :: rest) (hr : s.inReset = false)
    (hq : s.eng.seq = .tx ∨ s.eng.seq = .rxStat ∨ s.eng.seq = .rxCsum) (hc : s.eng.cnt = 0) :
    step s = .next (completion (s.afterEvent rest)) := by
  rw [step_clkEdge hp, clockEdge_completes (s := s.afterEvent rest) hr (transfersDone_eq_true.2 ⟨hq, hc⟩)]

theorem completion_tx {s : State} (h : s.eng.seq = .tx) : completion s = completeSend s := by
  simp [completion, h]

theorem completion_rxStat {s : State} (h : s.eng.seq = .rxStat) : completion s = finishShort s := by
  simp [completion, h]

theorem completion_rxCsum {s : State} (h : s.eng.seq = .rxCsum) : completion s = finishFrame s := by
  simp [completion, h]

/-- Settles O12, one completion for each phase that ends a command. -/
theorem completionIsOneStep : Obligations.CompletionIsOneStep := by
  intro s rxValid txReady rest hp hn hh hc
  have hr : s.inReset = false := inReset_eq_false.2 ⟨hn, hh⟩
  refine ⟨fun hs => ?_, fun hs => ?_, fun hs => ?_⟩
  · rw [step_completes hp hr (.inl hs) hc, completion_tx (s := s.afterEvent rest) hs]
    rfl
  · rw [step_completes hp hr (.inr (.inl hs)) hc, completion_rxStat (s := s.afterEvent rest) hs]
    rfl
  · rw [step_completes hp hr (.inr (.inr hs)) hc, completion_rxCsum (s := s.afterEvent rest) hs, finishFrame,
      validCount_csumOutcome]
    rfl

end Sys2Proof.Machine

/-! PROOFS. The control invariant: every step keeps flags, counts and phases consistent (R14, R25, R28, R38, R77, R84, R86,
R95, R100, R109). A lemma for each operation names the clauses it touches; every other clause is the one before. -/

namespace Sys2Proof.Machine

/-! ## Reset and the outside -/

/-- Once reset is left, nothing is claimed of the reset values. -/
theorem atReset_of_held {s : State} (hh : s.env.held = false) : s.env.held = true → s.atReset :=
  fun h => nomatch hh.symm.trans h

theorem held_of_not_inReset {s : State} (hr : s.inReset = false) : s.env.held = false := (inReset_eq_false.1 hr).2

theorem resetAll_atReset (s : State) : s.resetAll.atReset := ⟨rfl, rfl, rfl, rfl, rfl, rfl, rfl, rfl, rfl⟩

/-- A state at its reset values meets every clause, in reset or out of it. -/
theorem State.atReset.controlOk {s : State} (h : s.atReset) (hn : s.env.rstN = false → s.env.held = true) :
    s.ControlOk := by
  obtain ⟨-, hstat, -, hrx, hdtc, -, -, -, heng⟩ := id h
  constructor <;> simp_all [State.reset, Seq.reading]

namespace State.ControlOk

theorem afterEvent {s : State} (h : s.ControlOk) (rest : List Event) : (s.afterEvent rest).ControlOk := { h with }

theorem rxArrive {s : State} (h : s.ControlOk) (b : Byte) :
    State.ControlOk { s with env.rxStream := s.env.rxStream ++ [b] } := { h with }

theorem leaveReset {s : State} (h : s.ControlOk) (hn : s.env.rstN = true) : s.leaveReset.ControlOk :=
  { h with
    resetHeld := fun hl => nomatch hn.symm.trans hl
    inReset := atReset_of_held rfl }

theorem answerRead {s : State} (h : s.ControlOk) (hh : s.env.held = false) (addr : BitVec 12) :
    (Machine.answerRead addr s).ControlOk :=
  { h with inReset := atReset_of_held hh }

theorem setRstPin {s : State} (h : s.ControlOk) (level : Bool) : (Machine.setRstPin level s).ControlOk := by
  cases level with
  | false =>
    have hreset : (Machine.setRstPin false s).atReset := resetAll_atReset s
    exact hreset.controlOk fun _ => rfl
  | true => exact { h with resetHeld := fun hl => nomatch hl }

/-! ## Operations of the commands, out of reset -/

theorem beginCommand {s : State} (h : s.ControlOk) (hh : s.env.held = false) : s.beginCommand.ControlOk :=
  { h with
    doneIdle := fun hd => nomatch hd
    busyErr := fun _ => rfl
    inReset := atReset_of_held hh }

theorem refuse {s : State} (h : s.ControlOk) (hh : s.env.held = false) (hi : s.eng.seq = .idle) (code : CmdError) :
    (s.refuse code).ControlOk :=
  { h with
    doneIdle := fun _ => hi
    busyErr := fun hb => absurd hi hb
    inReset := atReset_of_held hh }

theorem complete {s : State} (h : s.ControlOk) (hh : s.env.held = false) : s.complete.ControlOk :=
  { h with
    doneIdle := fun _ => rfl
    busyErr := fun hb => absurd rfl hb
    reading := fun hr => nomatch hr
    endsNegative := fun hs => nomatch hs
    inReset := atReset_of_held hh }

theorem putRequest {s : State} (h : s.ControlOk) (hh : s.env.held = false) : s.putRequest.ControlOk :=
  { h with inReset := atReset_of_held hh }

theorem putView {s : State} (h : s.ControlOk) (hh : s.env.held = false) (r : DtcRecord) : (s.putView r).ControlOk :=
  { h with inReset := atReset_of_held hh }

theorem startSend {s : State} (h : s.ControlOk) (hh : s.env.held = false) (hd : s.stat.done = false)
    (he : s.stat.err = .none) : s.startSend.ControlOk :=
  { h with
    doneIdle := fun hd' => nomatch hd.symm.trans hd'
    busyErr := fun _ => he
    reading := fun hr => nomatch hr
    endsNegative := fun hs => nomatch hs
    inReset := atReset_of_held hh }

/-- READ_RESP starts in a phase of its own that has a byte to come (R77). -/
theorem startRead_enter {s : State} (h : s.ControlOk) (hh : s.env.held = false) (hd : s.stat.done = false)
    (he : s.stat.err = .none) (hc : s.rx.cap.toNat ≤ 80) {phase : Seq} (hp : phase ≠ .rxStat) (n : BitVec 16) :
    (s.startRead.enter phase n).ControlOk :=
  { h with
    doneIdle := fun hd' => nomatch hd.symm.trans hd'
    busyErr := fun _ => he
    reading := fun _ => ⟨rfl, rfl, rfl, hc, Nat.zero_le _⟩
    discarded := fun ho => by simp at ho
    negative := fun ho => nomatch ho
    zlen := fun ho => absurd rfl ho
    table := fun hv => nomatch hv
    endsNegative := fun hs => absurd hs hp
    inReset := atReset_of_held hh }

end State.ControlOk

/-! ## The table of a payload (R86) -/

/-- The effective records are no more than the declared and the present ones. -/
theorem dtcEffective_le (s : State) : s.dtcEffective ≤ s.dtcDeclared.toNat ∧ s.dtcEffective ≤ s.dtcPresent := by
  unfold State.dtcEffective
  split
  · simp
  · exact ⟨Nat.min_le_left _ _, Nat.min_le_right _ _⟩

/-- A payload of at most 80 bytes holds at most 26 records. -/
theorem dtcPresent_le {s : State} (hp : s.rx.plen.toNat ≤ 80) : s.dtcPresent ≤ 26 := by
  unfold State.dtcPresent
  omega

theorem putRecords_neff_toNat {s : State} (hp : s.rx.plen.toNat ≤ 80) :
    s.putRecords.dtc.neff.toNat = s.dtcEffective := by
  have hle := (dtcEffective_le s).2
  have hfit := dtcPresent_le hp
  rw [State.putRecords_dtc_neff, BitVec.toNat_ofNat]
  omega

theorem State.ControlOk.putRecords {s : State} (h : s.ControlOk) (hh : s.env.held = false) (hi : s.eng.seq = .idle)
    (hok : s.stat.outcome = .ok) : s.putRecords.ControlOk :=
  have hneff := putRecords_neff_toNat h.plenBound
  have ⟨hdeclared, hpresent⟩ := dtcEffective_le s
  { h with
    reading := fun hr => by simp [hi, Seq.reading] at hr
    neffBound := hneff ▸ hpresent.trans (dtcPresent_le h.plenBound)
    table := fun _ => ⟨hok, hneff ▸ hdeclared, hneff ▸ hpresent⟩
    inReset := atReset_of_held hh }

/-! ## Host writes -/

/-- An operand write falls while idle; only a read in progress looks at an operand. -/
theorem State.ControlOk.operandWrite {s t : State} (h : s.ControlOk) (hh : s.env.held = false) (hi : s.eng.seq = .idle)
    (w : OperandWrite s t) : t.ControlOk := by
  cases w with
  | rxCap b =>
    exact { h with
      reading := fun hr => by simp [hi, Seq.reading] at hr
      inReset := atReset_of_held hh }
  | _ => exact { h with inReset := atReset_of_held hh }

theorem State.ControlOk.accepted {s t : State} (h : s.ControlOk) (hh : s.env.held = false) (hi : s.eng.seq = .idle)
    (a : Accepted s t) : t.ControlOk := by
  have hb := h.beginCommand hh
  cases a with
  | refused code _ => exact hb.refuse hh hi code
  | encode _ => exact (hb.putRequest hh).complete hh
  | send _ => exact (hb.putRequest hh).startSend hh rfl rfl
  | readEcho hc _ => exact hb.startRead_enter hh rfl rfl hc (by simp) _
  | readLen hc _ => exact hb.startRead_enter hh rfl rfl hc (by simp) _
  | decoded hok => exact (hb.putRecords hh hi hok).complete hh
  | viewed r => exact (hb.putView hh r).complete hh

theorem State.ControlOk.written {s t : State} (h : s.ControlOk) (hn : s.env.rstN = true) (hh : s.env.held = false)
    (w : Written s t) : t.ControlOk := by
  cases w with
  | ignored => exact h
  | dropped _ => exact { h with inReset := atReset_of_held hh }
  | operand hi w => exact h.operandWrite hh hi w
  | accepted hi a => exact h.accepted hh hi a
  | ctrl v =>
    unfold writeCtrl
    split
    · exact (resetAll_atReset s).controlOk fun hl => nomatch hn.symm.trans hl
    · exact { h with inReset := atReset_of_held hh }
  | status v =>
    exact { h with
      doneIdle := fun hd => h.doneIdle (Bool.and_eq_true_iff.1 hd).1
      inReset := atReset_of_held hh }

/-! ## Received bytes -/

theorem PayByte.stored_le {b : Byte} {s u : State} (h : PayByte b s u) (hc : s.rx.cap.toNat ≤ 80)
    (hs : s.eng.stored.toNat ≤ s.rx.cap.toNat) : u.eng.stored.toNat ≤ s.rx.cap.toNat := by
  cases h with
  | negative _ => exact hs
  | drained _ _ => exact hs
  | stored _ hlt =>
    have hlt : s.eng.stored.toNat < s.rx.cap.toNat := hlt
    simp only [State.countStored_eng_stored, State.putRx_eng, State.accumulate_eng_stored]
    bv_omega

/-- A byte received leaves READ_RESP in a phase of its own. -/
theorem Taken.reading {b : Byte} {s t : State} (h : Taken b s t) : t.eng.seq.reading = true := by
  cases h
  case payMore hs hu _ => simp [hu.engine.2.1, hs, Seq.reading]
  all_goals simp [enterLen, enterCsum, afterStat, Seq.reading, *]

/-- No byte received makes the stored bytes more than the capacity (R82). -/
theorem Taken.stored_le {b : Byte} {s t : State} (h : Taken b s t) (hc : s.rx.cap.toNat ≤ 80)
    (hs : s.eng.stored.toNat ≤ s.rx.cap.toNat) : t.eng.stored.toNat ≤ s.rx.cap.toNat := by
  cases h
  case payLast hu _ => exact hu.stored_le hc hs
  case payMore hu _ => exact hu.stored_le hc hs
  all_goals exact hs

/-- Only a negative status byte leaves the status phase with no byte to come (R80). -/
theorem Taken.endsNegative {b : Byte} {s t : State} (h : Taken b s t) (hq : t.eng.seq = .rxStat) (hc : t.eng.cnt = 0) :
    t.eng.latSt = Config.negCode := by
  cases h
  case statNegative _ hb _ => exact hb
  case len => simp at hc
  case payMore hs hu _ => simp [hu.engine.2.1, hs] at hq
  all_goals simp [enterLen, enterCsum, *] at hq

theorem PayByte.env {b : Byte} {s u : State} (h : PayByte b s u) : u.env = s.env := by
  obtain ⟨-, -, -, -, -, -, -, -, henv, -⟩ := h.same
  exact henv

theorem Taken.env {b : Byte} {s t : State} (h : Taken b s t) : t.env = s.env := by
  cases h
  case payLast hu _ => exact hu.env
  case payMore hu _ => exact hu.env
  all_goals rfl

/-- A byte received leaves flags and results as they are, and the read in progress. -/
theorem State.ControlOk.taken {b : Byte} {s t : State} (h : s.ControlOk) (hh : s.env.held = false)
    (hr : s.eng.seq.reading = true) (ht : Taken b s t) : t.ControlOk := by
  obtain ⟨houtcome, hzlen, hvalid, hcap, hstored⟩ := h.reading hr
  have hbusy : s.eng.seq ≠ .idle := fun hi => by simp [hi, Seq.reading] at hr
  have hstored := ht.stored_le hcap hstored
  have hreading := ht.reading
  have hends := ht.endsNegative
  obtain ⟨hstat, -, -, hrx, hdtc, -, -, -⟩ := ht.sameResults
  have henv := ht.env
  obtain ⟨_, stat, _, rx, dtc, _, _, _, eng, _, _, env⟩ := t
  subst hstat hrx hdtc henv
  exact { h with
    doneIdle := fun hd => absurd (h.doneIdle hd) hbusy
    busyErr := fun _ => h.busyErr hbusy
    reading := fun _ => ⟨houtcome, hzlen, hvalid, hcap, hstored⟩
    endsNegative := hends
    inReset := atReset_of_held hh }

/-! ## Completions -/

/-- A read completes: its results fit together whatever the outcome, if the payload they leave fits it (R84). -/
theorem State.ControlOk.finish {s : State} (h : s.ControlOk) (hh : s.env.held = false) (hr : s.eng.seq.reading = true)
    {code : ReadOutcome} {plen : Byte} (hp : plen.toNat ≤ 80)
    (hd : code = .negative ∨ code = .overflow → plen = 0) (hneg : code = .negative → s.eng.latSt = 0x7F)
    (summed rcvd : Byte) : (s.finish code plen summed rcvd).ControlOk :=
  have ⟨_, _, hvalid, _, _⟩ := h.reading hr
  { h with
    doneIdle := fun _ => rfl
    busyErr := fun hb => absurd rfl hb
    reading := fun hr => nomatch hr
    plenBound := hp
    discarded := hd
    negative := hneg
    zlen := fun _ => decide_eq_true_iff
    table := fun hv => nomatch hvalid.symm.trans hv
    endsNegative := fun hs => nomatch hs
    inReset := atReset_of_held hh }

theorem State.ControlOk.finishShort {s : State} (h : s.ControlOk) (hh : s.env.held = false) (hs : s.eng.seq = .rxStat)
    (hc : s.eng.cnt = 0) : (finishShort s).ControlOk :=
  h.finish hh (by simp [hs, Seq.reading]) (by simp) (fun _ => rfl) (fun _ => h.endsNegative hs hc) _ _

/-- The payload of a whole frame is at most what was stored. -/
theorem validCount_le (s : State) (code : ReadOutcome) : (s.validCount code).toNat ≤ s.eng.stored.toNat := by
  cases code <;> simp [State.validCount] <;> omega

theorem State.ControlOk.finishFrame {s : State} (h : s.ControlOk) (hh : s.env.held = false)
    (hs : s.eng.seq = .rxCsum) : (finishFrame s).ControlOk := by
  have hr : s.eng.seq.reading = true := by simp [hs, Seq.reading]
  obtain ⟨-, -, -, hcap, hstored⟩ := h.reading hr
  refine h.finish hh hr (((validCount_le s _).trans hstored).trans hcap) ?_ ?_ _ _
  · rintro (ho | ho) <;> simp [ho, State.validCount]
  · unfold State.csumOutcome
    split
    · exact fun _ => ‹_›
    · split
      · simp
      · split <;> simp

/-! ## Steps -/

theorem State.ControlOk.edge {s t : State} (h : s.ControlOk) (e : Edge s t) : t.ControlOk := by
  cases e with
  | nothing => exact h
  | leaves hn => exact h.leaveReset hn
  | sent hr hs _ =>
    exact { h with
      inReset := atReset_of_held (held_of_not_inReset hr)
      endsNegative := fun hq => nomatch hs.symm.trans hq }
  | received b rest hr hs _ _ =>
    have hh := held_of_not_inReset hr
    have hdraw : State.ControlOk ({ s with env.rxStream := rest } : State).freshDraw :=
      { h with inReset := atReset_of_held hh }
    exact hdraw.taken hh hs (rxTransfer_taken hs)
  | completesSend hr _ _ => exact h.complete (held_of_not_inReset hr)
  | completesShort hr hs hc => exact h.finishShort (held_of_not_inReset hr) hs hc
  | completesFrame hr hs _ => exact h.finishFrame (held_of_not_inReset hr) hs

theorem State.ControlOk.effect {s t : State} (h : s.ControlOk) (e : Effect s t) : t.ControlOk := by
  cases e with
  | read addr hn => exact (h.leaveReset hn).answerRead rfl addr
  | written hn w => exact (h.leaveReset hn).written hn rfl w
  | arrived b => exact h.rxArrive b
  | edge e => exact h.edge e
  | pin level => exact h.setRstPin level

/-- Settles O53: the pending events are no part of the invariant, and each effect of an event keeps it. -/
theorem stepKeepsControl : Obligations.StepKeepsControl :=
  fun _ _ => step_keeps (fun _ rest h => h.afterEvent rest) fun _ _ h => h.effect

end Sys2Proof.Machine

/-! PROOFS. The register words (R9 to R34, R43): the fields of a word as numbers, which offset names what, and what a Host
reads after a write to one register. -/

namespace Sys2Proof.Machine

/-! ## The words as numbers -/

theorem flagBit_toNat (b : Bool) : (flagBit b).toNat = b.toNat := BitVec.toNat_ofBool b

theorem packBytes_toNat (b0 b1 b2 b3 : Byte) :
    (packBytes b0 b1 b2 b3).toNat = b0.toNat + 256 * b1.toNat + 65536 * b2.toNat + 16777216 * b3.toNat := by
  simp only [packBytes, toNat_concat]
  omega

theorem recordWord_toNat (r : DtcRecord) :
    (recordWord r).toNat = r.high.toNat + 256 * r.low.toNat + 65536 * r.status.toNat := by
  simp [recordWord, packBytes_toNat]

theorem ctrlWord_toNat (c : Ctrl) : (ctrlWord c).toNat = c.irqEn.toNat + 2 * c.negDrain.toNat := by
  simp only [ctrlWord, toNat_concat, flagBit_toNat, BitVec.ofNat_eq_ofNat, BitVec.toNat_zero]
  omega

theorem statusWord_toNat (busy : Bool) (f : Status) :
    (statusWord busy f).toNat = busy.toNat + 2 * f.done.toNat + 4 * f.werr.toNat + 8 * f.zlen.toNat +
      16 * f.err.code.toNat + 256 * f.outcome.code.toNat := by
  simp only [statusWord, toNat_concat, flagBit_toNat, BitVec.ofNat_eq_ofNat, BitVec.toNat_zero]
  omega

theorem dtcInfoWord_toNat (d : DtcInfo) :
    (dtcInfoWord d).toNat = d.ndecl.toNat + 256 * d.neff.toNat + 65536 * d.trunc.toNat + 131072 * d.valid.toNat := by
  simp only [dtcInfoWord, toNat_concat, flagBit_toNat, BitVec.ofNat_eq_ofNat, BitVec.toNat_zero]
  omega

theorem statusViewWord_toNat (v : StatusView) :
    (statusViewWord v).toNat = v.symRaw.toNat + 16 * (symptomCode v.symClass).toNat + 256 * v.tnc.toNat +
      512 * v.mat.toNat + 2048 * v.lamp.toNat := by
  simp only [statusViewWord, toNat_concat, flagBit_toNat, BitVec.ofNat_eq_ofNat, BitVec.toNat_zero]
  omega

/-- A register narrower than a word reads as its value. -/
theorem setWidth_word_toNat {n : Nat} (x : BitVec n) (h : n ≤ 32 := by decide) : (x.setWidth 32).toNat = x.toNat :=
  BitVec.toNat_setWidth_of_le h

/-- The family of a record and its upper 6 bits are its high byte (R69). -/
theorem familyOf_append_high6 (high : Byte) : familyOf high ++ high.extractLsb' 0 6 = high := by
  apply BitVec.eq_of_toNat_eq
  have := high.isLt
  simp only [toNat_concat, familyOf, BitVec.extractLsb'_toNat, Nat.shiftRight_eq_div_pow]
  omega

/-- Settles O32. -/
theorem viewCodeHoldsRecord : Obligations.ViewCodeHoldsRecord := by
  intro high low
  have hhigh := congrArg BitVec.toNat (familyOf_append_high6 high)
  simp only [toNat_concat] at hhigh
  simp only [codeWord, toNat_concat]
  omega

/-- Settles O38: the word of each register is that of its fields. -/
theorem registerWordsHoldFields : Obligations.RegisterWordsHoldFields := by
  intro s
  have hbusy : s.busy.toNat = if s.eng.seq = .idle then 0 else 1 := by
    unfold State.busy
    split <;> simp [*]
  have hcfg : Config.cfgWord = 0x00FE1A50 := by decide
  refine ⟨rfl, hcfg, ctrlWord_toNat s.ctrl, ?_, rfl, setWidth_word_toNat _, setWidth_word_toNat _, setWidth_word_toNat _,
    setWidth_word_toNat _, setWidth_word_toNat _, setWidth_word_toNat _, setWidth_word_toNat _, setWidth_word_toNat _,
    setWidth_word_toNat _, setWidth_word_toNat _, setWidth_word_toNat _, setWidth_word_toNat _, dtcInfoWord_toNat s.dtc,
    recordWord_toNat s.view.input, recordWord_toNat s.view.record, setWidth_word_toNat _, rfl, setWidth_word_toNat _, ?_⟩
  · refine (statusWord_toNat s.busy s.stat).trans ?_
    rw [hbusy]
    cases s.stat.err <;> cases s.stat.outcome <;> rfl
  · refine (statusViewWord_toNat s.view.status).trans ?_
    cases s.view.status.symClass <;> rfl

/-! ## The offsets of the window (R43) -/

/-- The place of a register among the words of the window. -/
def Reg.wordIndex : Reg → Nat
  | .id => 0
  | .cfg => 1
  | .ctrl => 2
  | .status => 3
  | .cmd => 4
  | .txSid => 5
  | .txPlen => 6
  | .txFlen => 7
  | .txCsum => 8
  | .txCount => 9
  | .rxEchoLen => 10
  | .rxCap => 11
  | .rxL => 12
  | .rxStatus => 13
  | .rxPlen => 14
  | .rxCsumCalc => 15
  | .rxCsumRcvd => 16
  | .dtcInfo => 17
  | .viewIn => 18
  | .viewRec => 19
  | .viewCode => 20
  | .viewAscii0 => 21
  | .viewAscii1 => 22
  | .viewStatus => 23

/-- The offset of what a target names, none if it is nothing: `targetAt` read backwards. -/
def Target.offset? : Target → Option Nat
  | .reg r => some (4 * r.wordIndex)
  | .txbuf j => some (0x100 + 4 * j)
  | .rxbuf j => some (0x200 + 4 * j)
  | .dtcTab k => some (0x300 + 4 * k)
  | .reserved => none

theorem offset?_regTarget {n : Nat} (h : regTarget n ≠ .reserved) : (regTarget n).offset? = some (4 * n) := by
  match n with
  | 0 | 1 | 2 | 3 | 4 | 5 | 6 | 7 | 8 | 9 | 10 | 11 | 12 | 13 | 14 | 15 | 16 | 17 | 18 | 19 | 20 | 21 | 22 | 23 => rfl
  | _ + 24 => exact absurd rfl h

/-- An aligned offset is the one of the target it names. -/
theorem offset?_targetAt {a : BitVec 12} (ha : a.toNat % 4 = 0) (h : targetAt a ≠ .reserved) :
    (targetAt a).offset? = some a.toNat := by
  unfold targetAt at h ⊢
  dsimp only at h ⊢
  split_ifs at h ⊢
  · rw [offset?_regTarget h, Nat.mul_div_cancel' (Nat.dvd_of_mod_eq_zero ha)]
  · simp only [Target.offset?, Option.some.injEq]
    omega
  · simp only [Target.offset?, Option.some.injEq]
    omega
  · exact absurd rfl h
  · simp only [Target.offset?, Option.some.injEq]
    omega
  · exact absurd rfl h

/-- Settles O39: the target determines the offset. -/
theorem offsetsNameDistinctTargets : Obligations.OffsetsNameDistinctTargets := by
  intro a b ha hb hab h
  have haOffset := offset?_targetAt ha h
  have hbOffset := offset?_targetAt hb (hab ▸ h)
  rw [← hab, haOffset, Option.some.injEq] at hbOffset
  exact BitVec.eq_of_toNat_eq hbOffset

/-! ## One register written -/

/-- Every register but `r`, every byte of the buffers and every record reads the same in both states. -/
structure SameReadsBut (r : Reg) (s t : State) : Prop where
  reg : ∀ r', r' ≠ r → readReg t r' = readReg s r'
  tx : t.txByte = s.txByte
  rx : t.rxHostByte = s.rxHostByte
  tab : t.dtcTab = s.dtcTab

/-- Every aligned offset but that of the register reads as before. -/
theorem SameReadsBut.readWord {r : Reg} {s t : State} (h : SameReadsBut r s t) {a b : BitVec 12}
    (htarget : targetAt a = .reg r) (ha : a.toNat % 4 = 0) (hb : b.toNat % 4 = 0) (hne : b ≠ a) :
    readWord t b = readWord s b := by
  unfold Machine.readWord
  split
  · rename_i r' hr'
    refine h.reg r' fun hr => hne ?_
    subst hr
    exact offsetsNameDistinctTargets b a hb ha (hr'.trans htarget.symm) (by simp [hr'])
  · rw [h.tx]
  · rw [h.rx]
  · rw [State.dtcRecord, State.dtcRecord, h.tab]
  · rfl

/-- The low bits of a word, stored and read back. -/
theorem extractLsb'_setWidth_word {n : Nat} (v : Word) (h : n ≤ 32 := by decide) :
    (v.extractLsb' 0 n).setWidth 32 = v &&& BitVec.ofNat 32 (2 ^ n - 1) := by
  apply BitVec.eq_of_toNat_eq
  have hlt : 2 ^ n - 1 < 2 ^ 32 :=
    Nat.lt_of_lt_of_le (Nat.sub_lt (Nat.two_pow_pos n) Nat.one_pos) (Nat.pow_le_pow_right (by decide) h)
  rw [setWidth_word_toNat _ h, BitVec.extractLsb'_toNat, BitVec.toNat_and, BitVec.toNat_ofNat,
    Nat.mod_eq_of_lt hlt, Nat.and_two_pow_sub_one_eq_mod, Nat.shiftRight_zero]

theorem recordWord_recordOfWord (v : Word) : recordWord (recordOfWord v) = v &&& 0x00FFFFFF := by
  apply BitVec.eq_of_toNat_eq
  have hmask : (v &&& 0x00FFFFFF).toNat = v.toNat % 2 ^ 24 := Nat.and_two_pow_sub_one_eq_mod v.toNat 24
  rw [hmask, recordWord_toNat]
  simp only [recordOfWord, byteOf, BitVec.extractLsb'_toNat, Nat.shiftRight_eq_div_pow]
  omega

theorem ctrlWord_ctrlOfWord (v : Word) : ctrlWord (ctrlOfWord v) = v &&& 0x00000003 := by
  apply BitVec.eq_of_toNat_eq
  have hmask : (v &&& 0x00000003).toNat = v.toNat % 2 ^ 2 := Nat.and_two_pow_sub_one_eq_mod v.toNat 2
  rw [hmask, ctrlWord_toNat]
  simp only [ctrlOfWord, BitVec.getLsbD, Nat.toNat_testBit]
  omega

theorem sameReadsBut_ctrl (s : State) (c : Ctrl) : SameReadsBut .ctrl s { s with ctrl := c } :=
  ⟨fun r hr => by cases r with | ctrl => exact absurd rfl hr | _ => rfl, rfl, rfl, rfl⟩

theorem writeCtrl_stores {s : State} {v : Word} (h : v.getLsbD 2 = false) :
    writeCtrl v s = { s with ctrl := ctrlOfWord v } := by
  rw [writeCtrl, srstBit, h]
  rfl

/-- Settles O42. -/
theorem controlWriteStoresEnables : Obligations.ControlWriteStoresEnables := by
  intro s v hv
  have hwrite : writeWord 0x008 v s = .next { s with ctrl := ctrlOfWord v } :=
    congrArg Host.Outcome.next (writeCtrl_stores hv)
  refine ⟨hwrite, fun t ht => ?_⟩
  cases hwrite.symm.trans ht
  exact ⟨ctrlWord_ctrlOfWord v, fun b hb hne => (sameReadsBut_ctrl s _).readWord rfl rfl hb hne⟩

/-! ## STATUS (R14, R55) -/

/-- A flag below other bits is bit 0. -/
theorem getLsbD_append_flagBit {n : Nat} (x : BitVec n) (b : Bool) (i : Nat) :
    (x ++ flagBit b).getLsbD i = if i = 0 then b else x.getLsbD (i - 1) := by
  rw [flagBit, BitVec.getLsbD_append]
  cases i <;> simp

/-- The bits of `STATUS`: `BUSY`, `DONE` and `WERR`, and above them what a write does not change. -/
theorem statusWord_getLsbD (busy : Bool) (f : Status) (i : Nat) :
    (statusWord busy f).getLsbD i =
      if i = 0 then busy else if i = 1 then f.done else if i = 2 then f.werr
      else ((0 : BitVec 21) ++ f.outcome.code ++ f.err.code ++ flagBit f.zlen).getLsbD (i - 3) := by
  match i with
  | 0 | 1 | 2 | i + 3 => simp only [statusWord, getLsbD_append_flagBit]; rfl

/-- The bits a `STATUS` write can clear are 1 and 2. -/
theorem statusMask_getLsbD (i : Nat) : (0x00000006 : Word).getLsbD i = decide (i = 1 ∨ i = 2) := by
  match i with
  | 0 | 1 | 2 => rfl
  | i + 3 => simp [BitVec.getLsbD, Nat.testBit_succ]

theorem statusWord_clearStatus (busy : Bool) (f : Status) (v : Word) :
    statusWord busy (clearStatus v f) = statusWord busy f &&& ~~~(v &&& 0x00000006) := by
  apply BitVec.eq_of_getLsbD_eq
  intro i hi
  rw [BitVec.getLsbD_and, BitVec.getLsbD_not, BitVec.getLsbD_and, statusMask_getLsbD, statusWord_getLsbD,
    statusWord_getLsbD]
  match i with
  | 0 => simp
  | 1 => simp [clearStatus]
  | 2 => simp [clearStatus]
  | i + 3 => simp [clearStatus, hi]

theorem sameReadsBut_status (s : State) (f : Status) : SameReadsBut .status s { s with stat := f } :=
  ⟨fun r hr => by cases r with | status => exact absurd rfl hr | _ => rfl, rfl, rfl, rfl⟩

/-- Settles O45. -/
theorem statusWriteClearsByOne : Obligations.StatusWriteClearsByOne := fun s v =>
  ⟨writeStatus v s, rfl, statusWord_clearStatus s.busy s.stat v,
    fun _ hb hne => (sameReadsBut_status s _).readWord rfl rfl hb hne⟩

/-! ## Operand registers (R16, R17, R21, R22, R29) -/

theorem sameReadsBut_txSid (s : State) (b : Byte) : SameReadsBut .txSid s { s with tx.sid := b } :=
  ⟨fun r hr => by cases r with | txSid => exact absurd rfl hr | _ => rfl, rfl, rfl, rfl⟩

theorem sameReadsBut_txPlen (s : State) (b : Byte) : SameReadsBut .txPlen s { s with tx.plen := b } :=
  ⟨fun r hr => by cases r with | txPlen => exact absurd rfl hr | _ => rfl, rfl, rfl, rfl⟩

theorem sameReadsBut_rxEchoLen (s : State) (n : BitVec 16) : SameReadsBut .rxEchoLen s { s with rx.echoLen := n } :=
  ⟨fun r hr => by cases r with | rxEchoLen => exact absurd rfl hr | _ => rfl, rfl, rfl, rfl⟩

theorem sameReadsBut_rxCap (s : State) (b : Byte) : SameReadsBut .rxCap s { s with rx.cap := b } :=
  ⟨fun r hr => by cases r with | rxCap => exact absurd rfl hr | _ => rfl, rfl, rfl, rfl⟩

theorem sameReadsBut_viewIn (s : State) (r : DtcRecord) : SameReadsBut .viewIn s { s with view.input := r } :=
  ⟨fun r hr => by cases r with | viewIn => exact absurd rfl hr | _ => rfl, rfl, rfl, rfl⟩

/-- What no operand write touches: the flags, the Sequencer, the outside and both buffers. -/
structure OperandFrame (s t : State) : Prop where
  stat : t.stat = s.stat
  eng : t.eng = s.eng
  env : t.env = s.env
  mem : t.mem = s.mem
  free : t.free = s.free

theorem OperandFrame.sameBuffers {s t : State} (h : OperandFrame s t) : SameBuffers s t :=
  ⟨fun a => by rw [h.mem], txByte_congr h.mem (by rw [h.free]), rxCell_congr h.mem (by rw [h.free])⟩

/-- While idle, the locked write of an operand register is done, reads back, and leaves all else as it was. -/
theorem operandWrite_readsBack {s : State} {v mask : Word} {a : BitVec 12} {r : Reg} {write : State → State}
    (hw : writeWord a v s = .next (s.lockedWrite write)) (hs : s.eng.seq = .idle) (ha : a.toNat % 4 = 0)
    (htarget : targetAt a = .reg r) (hread : readReg (write s) r = v &&& mask) (hsame : SameReadsBut r s (write s))
    (hframe : OperandFrame s (write s)) :
    ∃ t, writeWord a v s = .next t ∧ readWord t a = v &&& mask ∧
      (∀ b : BitVec 12, b.toNat % 4 = 0 → b ≠ a → readWord t b = readWord s b) ∧
      t.stat = s.stat ∧ t.eng = s.eng ∧ t.env = s.env ∧ SameBuffers s t := by
  rw [lockedWrite_idle write hs] at hw
  refine ⟨write s, hw, ?_, fun b hb hne => hsame.readWord htarget ha hb hne, hframe.stat, hframe.eng, hframe.env,
    hframe.sameBuffers⟩
  rw [readWord, htarget]
  exact hread

/-- Settles O41, register by register. -/
theorem operandWritesReadBack : Obligations.OperandWritesReadBack := by
  intro s v hs am ham
  simp only [List.mem_cons, List.not_mem_nil, or_false] at ham
  rcases ham with rfl | rfl | rfl | rfl | rfl
  · exact operandWrite_readsBack rfl hs rfl rfl (extractLsb'_setWidth_word v) (sameReadsBut_txSid s _)
      ⟨rfl, rfl, rfl, rfl, rfl⟩
  · exact operandWrite_readsBack rfl hs rfl rfl (extractLsb'_setWidth_word v) (sameReadsBut_txPlen s _)
      ⟨rfl, rfl, rfl, rfl, rfl⟩
  · exact operandWrite_readsBack rfl hs rfl rfl (extractLsb'_setWidth_word v) (sameReadsBut_rxEchoLen s _)
      ⟨rfl, rfl, rfl, rfl, rfl⟩
  · exact operandWrite_readsBack rfl hs rfl rfl (extractLsb'_setWidth_word v) (sameReadsBut_rxCap s _)
      ⟨rfl, rfl, rfl, rfl, rfl⟩
  · exact operandWrite_readsBack rfl hs rfl rfl (recordWord_recordOfWord v) (sameReadsBut_viewIn s _)
      ⟨rfl, rfl, rfl, rfl, rfl⟩

end Sys2Proof.Machine

/-! PROOFS. What can change OUTCOME (R40, R94) and TXBUF (R35, R59, R96). -/

namespace Sys2Proof.Machine

/-! ## OUTCOME -/

/-- What may change OUTCOME: the completion of a read, a reset, or the acceptance of a read. -/
def OutcomeCause (s t : State) : Prop :=
  (s.eng.seq.reading = true ∧ t.eng.seq = .idle) ∨
    (t.stat.outcome = .none ∧ (t.atReset ∨ (s.eng.seq = .idle ∧ t.eng.seq.reading = true)))

theorem State.atReset.outcomeCause {s t : State} (h : t.atReset) : OutcomeCause s t :=
  have ⟨_, hstat, _⟩ := h
  .inr ⟨congrArg Status.outcome hstat, .inl h⟩

theorem Accepted.outcome {s t : State} (h : Accepted s t) (hs : s.eng.seq = .idle) :
    t.stat.outcome = s.stat.outcome ∨ OutcomeCause s t := by
  cases h with
  | readEcho _ _ => exact .inr (.inr ⟨rfl, .inr ⟨hs, rfl⟩⟩)
  | readLen _ _ => exact .inr (.inr ⟨rfl, .inr ⟨hs, rfl⟩⟩)
  | _ => exact .inl rfl

theorem Written.outcome {s t : State} (h : Written s t) : t.stat.outcome = s.stat.outcome ∨ OutcomeCause s t := by
  cases h with
  | accepted hs a => exact a.outcome hs
  | operand _ w => cases w <;> exact .inl rfl
  | ctrl v =>
    unfold writeCtrl
    split
    · exact .inr (resetAll_atReset s).outcomeCause
    · exact .inl rfl
  | _ => exact .inl rfl

theorem Edge.outcome {s t : State} (h : Edge s t) : t.stat.outcome = s.stat.outcome ∨ OutcomeCause s t := by
  cases h with
  | received b rest _ hr _ _ =>
    have ht := rxTransfer_taken (b := b) (s := { s with env.rxStream := rest }) hr
    exact .inl (congrArg Status.outcome ht.sameResults.stat)
  | completesShort _ hs _ => exact .inr (.inl ⟨by simp [hs, Seq.reading], rfl⟩)
  | completesFrame _ hs _ => exact .inr (.inl ⟨by simp [hs, Seq.reading], rfl⟩)
  | _ => exact .inl rfl

theorem Effect.outcome {s t : State} (h : Effect s t) : t.stat.outcome = s.stat.outcome ∨ OutcomeCause s t := by
  cases h with
  | written _ w => exact w.outcome
  | edge e => exact e.outcome
  | pin level =>
    cases level with
    | false =>
      have hreset : (setRstPin false s).atReset := resetAll_atReset s
      exact .inr hreset.outcomeCause
    | true => exact .inl rfl
  | _ => exact .inl rfl

/-- Settles O56: every effect of an event leaves OUTCOME alone or is one of its causes. -/
theorem outcomeChangesOnlyByReadResp : Obligations.OutcomeChangesOnlyByReadResp := by
  intro s t hstep hne
  rcases step_effect hstep with ⟨-, rfl⟩ | ⟨e, rest, -, he⟩
  · exact absurd rfl hne
  · exact he.outcome.resolve_left hne

/-! ## TXBUF -/

/-- Every byte of TXBUF is as before. -/
def SameTxbuf (s t : State) : Prop := ∀ i < 256, t.txByte i = s.txByte i

theorem sameTxbuf_of_mem {s t : State} (hm : t.mem = s.mem) (hf : t.free.txBase = s.free.txBase) : SameTxbuf s t :=
  fun i _ => txByte_congr hm hf i

theorem Accepted.sameTxbuf {s t : State} (h : Accepted s t) : SameTxbuf s t := by
  cases h <;> exact sameTxbuf_of_mem rfl rfl

theorem PayByte.sameTxbuf {b : Byte} {s u : State} (h : PayByte b s u) : SameTxbuf s u := by
  cases h with
  | stored _ _ => exact fun i hi => txByte_putRx (s.accumulate b) _ b hi
  | _ => exact sameTxbuf_of_mem rfl rfl

theorem Taken.sameTxbuf {b : Byte} {s t : State} (h : Taken b s t) : SameTxbuf s t := by
  cases h
  case payLast hu _ => exact hu.sameTxbuf
  case payMore hu _ => exact hu.sameTxbuf
  all_goals exact sameTxbuf_of_mem rfl rfl

theorem Edge.sameTxbuf {s t : State} (h : Edge s t) : SameTxbuf s t := by
  cases h with
  | received b rest _ hr _ _ => exact (rxTransfer_taken (s := { s with env.rxStream := rest }) hr).sameTxbuf
  | _ => exact sameTxbuf_of_mem rfl rfl

theorem writeCtrl_sameTxbuf (v : Word) (s : State) : (writeCtrl v s).atReset ∨ SameTxbuf s (writeCtrl v s) := by
  unfold writeCtrl
  split
  · exact .inl (resetAll_atReset s)
  · exact .inr (sameTxbuf_of_mem rfl rfl)

/-- While busy no write reaches TXBUF (R96). -/
theorem Written.sameTxbuf_of_busy {s t : State} (h : Written s t) (hs : s.eng.seq ≠ .idle) :
    t.atReset ∨ SameTxbuf s t := by
  cases h with
  | operand hi _ => exact absurd hi hs
  | accepted hi _ => exact absurd hi hs
  | ctrl v => exact writeCtrl_sameTxbuf v s
  | _ => exact .inr (sameTxbuf_of_mem rfl rfl)

/-- No register write reaches TXBUF, unless it is a soft reset. -/
theorem writeReg_sameTxbuf {r : Reg} {v : Word} {s t : State} (hs : s.eng.seq = .idle) (h : writeReg r v s = .next t) :
    t.atReset ∨ SameTxbuf s t := by
  cases r <;> simp only [writeReg, lockedWrite_idle _ hs, Host.Outcome.next.injEq] at h
  case cmd => exact .inr (writeCmd_accepted hs h).sameTxbuf
  all_goals subst h
  case ctrl => exact writeCtrl_sameTxbuf v s
  all_goals exact .inr (sameTxbuf_of_mem rfl rfl)

theorem putTxWord_txByte_other {j : Nat} (v : Word) (s : State) {i : Nat} (h : i / 4 ≠ j) :
    (putTxWord j v s).txByte i = s.txByte i := by
  unfold putTxWord
  rw [txByte_putTx_other _ _ (by omega), txByte_putTx_other _ _ (by omega), txByte_putTx_other _ _ (by omega),
    txByte_putTx_other _ _ (by omega)]

/-- A word written changes a byte of TXBUF only if its offset names the word of that byte, and the block is idle. -/
theorem writeWord_txByte {a : BitVec 12} {v : Word} {s t : State} {i : Nat} (hi : i < 256)
    (h : writeWord a v s = .next t) (hne : t.txByte i ≠ s.txByte i) :
    t.atReset ∨ (s.eng.seq = .idle ∧ targetAt a = .txbuf (i / 4)) := by
  by_cases hs : s.eng.seq = .idle
  · unfold writeWord at h
    split at h
    · exact (writeReg_sameTxbuf hs h).imp_right fun hsame => absurd (hsame i hi) hne
    · rename_i j hj
      rw [lockedWrite_idle _ hs] at h
      cases h
      have hij : i / 4 = j := by
        by_contra hij
        exact hne (putTxWord_txByte_other v s hij)
      exact .inr ⟨hs, hij ▸ hj⟩
    all_goals
      cases h
      exact absurd rfl hne
  · exact ((writeWord_written h).sameTxbuf_of_busy hs).imp_right fun hsame => absurd (hsame i hi) hne

/-- Settles O57, event by event: only a Host write reaches TXBUF, and only its own word. -/
theorem txbufChangesOnlyByHostWrite : Obligations.TxbufChangesOnlyByHostWrite := by
  intro s t i hi hstep hne
  rw [step, stepEvent] at hstep
  split at hstep
  · cases hstep
    exact absurd rfl hne
  · rename_i e rest hp
    cases e with
    | hostRead size addr =>
      rw [handle] at hstep
      obtain ⟨-, -, -, hread⟩ := hostAccess_next hstep
      cases hread
      exact absurd rfl hne
    | hostWrite size addr v =>
      rw [handle] at hstep
      obtain ⟨-, rfl, haddr, hwrite⟩ := hostAccess_next hstep
      refine (writeWord_txByte hi hwrite hne).imp_right fun ⟨hs, htarget⟩ => ⟨hs, addr, v, rest, hp, ?_⟩
      have hoffset := offset?_targetAt haddr (by simp [htarget])
      rw [htarget, Target.offset?, Option.some.injEq] at hoffset
      exact hoffset.symm
    | rxArrive b =>
      cases hstep
      exact absurd rfl hne
    | clkEdge rxValid txReady =>
      cases hstep
      exact absurd ((clockEdge_edge rxValid txReady (s.afterEvent rest)).sameTxbuf i hi) hne
    | rstPin level =>
      cases hstep
      cases level with
      | false => exact .inl (resetAll_atReset (s.afterEvent rest))
      | true => exact absurd rfl hne

end Sys2Proof.Machine

/-! PROOFS. While idle no command reads the hidden Sequencer values (R38, U19): states that differ in those only stay so
through every operation of an acceptance. -/

namespace Sys2Proof.Machine

/-- The second state differs from the first in hidden values only, and not in the phase nor, within SEND, in the place of
the byte offered. -/
inductive HiddenOnly (s : State) : State → Prop
  | mk (e : Engine) (hseq : e.seq = s.eng.seq) (htxi : s.eng.seq = .tx → e.txi = s.eng.txi) :
      HiddenOnly s { s with eng := e }

namespace HiddenOnly

/-! ## What the Host sees -/

theorem stat {s u : State} (h : HiddenOnly s u) : u.stat = s.stat := by cases h; rfl

theorem tx {s u : State} (h : HiddenOnly s u) : u.tx = s.tx := by cases h; rfl

theorem rx {s u : State} (h : HiddenOnly s u) : u.rx = s.rx := by cases h; rfl

theorem env {s u : State} (h : HiddenOnly s u) : u.env = s.env := by cases h; rfl

theorem seq {s u : State} (h : HiddenOnly s u) : u.eng.seq = s.eng.seq := by
  cases h with | mk e hseq _ => exact hseq

theorem busy {s u : State} (h : HiddenOnly s u) : u.busy = s.busy := by rw [State.busy, h.seq, State.busy]

theorem txData {s u : State} (h : HiddenOnly s u) (hs : s.eng.seq = .tx) : u.txData = s.txData := by
  cases h with | mk e _ htxi => exact congrArg (fun i : BitVec 9 => s.frameByte i.toNat) (htxi hs)

theorem rxHostByte {s u : State} (h : HiddenOnly s u) : u.rxHostByte = s.rxHostByte := by
  funext i
  unfold State.rxHostByte
  rw [h.busy]
  cases h
  rfl

theorem readReg {s u : State} (h : HiddenOnly s u) (r : Reg) : readReg u r = readReg s r := by
  have hstatus : statusWord u.busy u.stat = statusWord s.busy s.stat := by rw [h.busy, h.stat]
  cases h
  cases r with
  | status => exact hstatus
  | _ => rfl

theorem readWord {s u : State} (h : HiddenOnly s u) (a : BitVec 12) : readWord u a = readWord s a := by
  unfold Machine.readWord
  split
  · exact h.readReg _
  · cases h
    rfl
  · rw [h.rxHostByte]
  · cases h
    rfl
  · rfl

/-! ## The operations of an acceptance -/

theorem beginCommand {s u : State} (h : HiddenOnly s u) : HiddenOnly s.beginCommand u.beginCommand := by
  cases h with | mk e hseq htxi => exact .mk e hseq htxi

theorem refuse {s u : State} (h : HiddenOnly s u) (code : CmdError) : HiddenOnly (s.refuse code) (u.refuse code) := by
  cases h with | mk e hseq htxi => exact .mk e hseq htxi

theorem putRequest {s u : State} (h : HiddenOnly s u) : HiddenOnly s.putRequest u.putRequest := by
  cases h with | mk e hseq htxi => exact .mk e hseq htxi

theorem putRecords {s u : State} (h : HiddenOnly s u) : HiddenOnly s.putRecords u.putRecords := by
  cases h with | mk e hseq htxi => exact .mk e hseq htxi

theorem putView {s u : State} (h : HiddenOnly s u) (r : DtcRecord) : HiddenOnly (s.putView r) (u.putView r) := by
  cases h with | mk e hseq htxi => exact .mk e hseq htxi

theorem complete {s u : State} (h : HiddenOnly s u) : HiddenOnly s.complete u.complete := by
  cases h with | mk e _ _ => exact .mk { e with seq := .idle } rfl fun hs => nomatch hs

/-- SEND starts at its first byte, whatever was left over. -/
theorem startSend {s u : State} (h : HiddenOnly s u) : HiddenOnly s.startSend u.startSend := by
  cases h with
  | mk e _ _ =>
    exact .mk { e with seq := .tx, cnt := BitVec.ofNat 16 (s.tx.plen.toNat + 3), txi := 0 } rfl fun _ => rfl

/-- READ_RESP starts in a phase of its own, whatever was left over. -/
theorem startRead_enter {s u : State} (h : HiddenOnly s u) {phase : Seq} (hp : phase ≠ .tx) (n : BitVec 16) :
    HiddenOnly (s.startRead.enter phase n) (u.startRead.enter phase n) := by
  cases h with
  | mk e _ _ =>
    exact .mk { e with negDrainL := s.ctrl.negDrain, acc := 0, drain := false, stored := 0, seq := phase, cnt := n } rfl
      fun hs => absurd hs hp

/-! ## The acceptances -/

theorem acceptEncode {s u : State} (h : HiddenOnly s u) : HiddenOnly (acceptEncode s) (acceptEncode u) := by
  unfold Machine.acceptEncode State.plenTooLong
  rw [h.tx]
  split
  · exact h.refuse _
  · exact h.putRequest.complete

theorem acceptSend {s u : State} (h : HiddenOnly s u) : HiddenOnly (acceptSend s) (acceptSend u) := by
  unfold Machine.acceptSend State.plenTooLong
  rw [h.tx]
  split
  · exact h.refuse _
  · exact h.putRequest.startSend

theorem acceptReadResp {s u : State} (h : HiddenOnly s u) : HiddenOnly (acceptReadResp s) (acceptReadResp u) := by
  have hecho : u.startRead.rx.echoLen = s.startRead.rx.echoLen := congrArg RxRegs.echoLen h.rx
  unfold Machine.acceptReadResp enterEcho enterLen
  rw [h.rx, hecho]
  split
  · exact h.refuse _
  · split
    · exact h.startRead_enter (by simp) _
    · exact h.startRead_enter (by simp) _

theorem acceptDtcDecode {s u : State} (h : HiddenOnly s u) : HiddenOnly (acceptDtcDecode s) (acceptDtcDecode u) := by
  unfold Machine.acceptDtcDecode
  rw [h.stat]
  split
  · exact h.refuse _
  · exact h.putRecords.complete

theorem acceptDtcView {s u : State} (h : HiddenOnly s u) (idx : Nat) :
    HiddenOnly (acceptDtcView idx s) (acceptDtcView idx u) := by
  have hbad : u.badIndex idx = s.badIndex idx := by cases h; rfl
  have hrecord : u.dtcRecord idx = s.dtcRecord idx := by cases h; rfl
  unfold Machine.acceptDtcView
  rw [hbad, hrecord]
  split
  · exact h.refuse _
  · exact (h.putView _).complete

theorem acceptDtcViewIn {s u : State} (h : HiddenOnly s u) : HiddenOnly (acceptDtcViewIn s) (acceptDtcViewIn u) := by
  have hinput : u.view.input = s.view.input := by cases h; rfl
  unfold Machine.acceptDtcViewIn
  rw [hinput]
  exact (h.putView _).complete

end HiddenOnly

/-- The acceptance of each command. -/
def acceptance : Instr → State → State
  | .encode => acceptEncode
  | .send => acceptSend
  | .readResp => acceptReadResp
  | .dtcDecode => acceptDtcDecode
  | .dtcView idx => acceptDtcView idx
  | .dtcViewIn => acceptDtcViewIn

theorem exec_eq_submit (i : Instr) (s : State) : exec i s = submit (acceptance i) s := by cases i <;> rfl

theorem exec_idle (i : Instr) {s : State} (h : s.eng.seq = .idle) :
    exec i s = .next (acceptance i s.beginCommand) := by
  rw [exec_eq_submit, submit_idle _ h]

theorem HiddenOnly.acceptance {s u : State} (h : HiddenOnly s u) (i : Instr) :
    HiddenOnly (acceptance i s) (acceptance i u) := by
  cases i with
  | encode => exact h.acceptEncode
  | send => exact h.acceptSend
  | readResp => exact h.acceptReadResp
  | dtcDecode => exact h.acceptDtcDecode
  | dtcView idx => exact h.acceptDtcView idx
  | dtcViewIn => exact h.acceptDtcViewIn

/-- Settles O59: every acceptance keeps `HiddenOnly`, under which the Host reads the same. -/
theorem hiddenStateUnreadWhileIdle : Obligations.HiddenStateUnreadWhileIdle := by
  intro s t e i hs he hexec
  have hidden : HiddenOnly s { s with eng := e } := .mk e (he.trans hs.symm) fun htx => nomatch hs.symm.trans htx
  cases (exec_idle i hs).symm.trans hexec
  have hafter := hidden.beginCommand.acceptance i
  exact ⟨_, exec_idle i he, hafter.seq, hafter.txData, hafter.env, fun a => ⟨hafter.readWord a, hidden.readWord a⟩⟩

end Sys2Proof.Machine

/-! PROOFS. The memory keeps its form (R35, R36, R43): every step leaves it alone, empties it, or puts bytes inside TXBUF and
RXBUF. -/

namespace Sys2Proof.Machine

namespace State.memoryOk

/-- The invariant looks at the memory alone. -/
theorem of_mem {s t : State} (h : s.memoryOk) (hm : t.mem = s.mem) : t.memoryOk := by
  unfold State.memoryOk
  rw [hm]
  exact h

theorem of_atReset {s : State} (h : s.atReset) : s.memoryOk := by
  obtain ⟨-, -, -, -, -, -, hmem, -, -⟩ := h
  simp [State.memoryOk, hmem]

/-- A byte put inside the two buffers. -/
theorem of_put {s t : State} (h : s.memoryOk) {a : Nat} {b : Byte} (hm : t.mem = s.mem.put a b)
    (hlo : txbufBase ≤ a) (hhi : a < rxbufBase + Config.respCap) : t.memoryOk := by
  obtain ⟨hwf, hlisted⟩ := h
  unfold State.memoryOk
  rw [hm]
  refine ⟨Memory.put_wf _ _ _ hwf, fun c hc => ?_⟩
  rcases Memory.mem_put _ _ _ hc with rfl | hc
  · exact ⟨hlo, hhi⟩
  · exact hlisted c hc

theorem putTx {s : State} (h : s.memoryOk) {i : Nat} (b : Byte) (hi : i < 256) : (s.putTx i b).memoryOk :=
  h.of_put (s.putTx_mem i b) (Nat.le_add_right _ _) (by unfold txbufBase rxbufBase; omega)

theorem putTxWord {s : State} (h : s.memoryOk) {j : Nat} (v : Word) (hj : j < 64) : (putTxWord j v s).memoryOk :=
  (((h.putTx _ (by omega)).putTx _ (by omega)).putTx _ (by omega)).putTx _ (by omega)

theorem putRx {s : State} (h : s.memoryOk) (i : Nat) (b : Byte) : (s.putRx i b).memoryOk := by
  by_cases hi : i < Config.respCap
  · exact h.of_put (s.putRx_mem i b hi) (by unfold txbufBase rxbufBase; omega) (Nat.add_lt_add_left hi _)
  · rw [State.putRx, if_neg hi]
    exact h

theorem accepted {s t : State} (h : s.memoryOk) (a : Accepted s t) : t.memoryOk := by
  cases a <;> exact h.of_mem rfl

theorem written {s t : State} (h : s.memoryOk) (w : Written s t) : t.memoryOk := by
  cases w with
  | operand _ w =>
    cases w with
    | txbuf j v hj => exact h.putTxWord v hj
    | _ => exact h.of_mem rfl
  | accepted _ a => exact h.accepted a
  | ctrl v =>
    unfold writeCtrl
    split
    · exact of_atReset (resetAll_atReset s)
    · exact h.of_mem rfl
  | _ => exact h.of_mem rfl

theorem payByte {b : Byte} {s u : State} (h : s.memoryOk) (p : PayByte b s u) : u.memoryOk := by
  cases p with
  | stored _ _ => exact State.memoryOk.putRx (s := s.accumulate b) h _ b
  | _ => exact h.of_mem rfl

theorem taken {b : Byte} {s t : State} (h : s.memoryOk) (k : Taken b s t) : t.memoryOk := by
  cases k
  case payLast hu _ => exact (h.payByte hu).of_mem rfl
  case payMore hu _ => exact (h.payByte hu).of_mem rfl
  all_goals exact h.of_mem rfl

theorem edge {s t : State} (h : s.memoryOk) (e : Edge s t) : t.memoryOk := by
  cases e with
  | received b rest _ hr _ _ =>
    exact State.memoryOk.taken (s := ({ s with env.rxStream := rest } : State).freshDraw) h (rxTransfer_taken hr)
  | _ => exact h.of_mem rfl

theorem effect {s t : State} (h : s.memoryOk) (e : Effect s t) : t.memoryOk := by
  cases e with
  | written _ w => exact State.memoryOk.written (s := s.leaveReset) h w
  | edge e => exact h.edge e
  | pin level =>
    cases level with
    | false => exact of_atReset (resetAll_atReset s)
    | true => exact h.of_mem rfl
  | _ => exact h.of_mem rfl

end State.memoryOk

/-- Settles O52: each effect of an event leaves the memory alone, empties it, or puts bytes inside the buffers. -/
theorem stepKeepsMemoryForm : Obligations.StepKeepsMemoryForm :=
  fun _ _ => step_keeps (fun _ _ h => h.of_mem rfl) fun _ _ h => h.effect

end Sys2Proof.Machine

/-! PROOFS. What moves through the ports (R5, R49, R50): a received byte only inside READ_RESP, a sent one only inside SEND. -/

namespace Sys2Proof.Machine

/-- Nothing moves at the ports, and the parameters stay. -/
structure SamePorts (s t : State) : Prop where
  rxStream : t.env.rxStream = s.env.rxStream
  txSent : t.env.txSent = s.env.txSent
  params : t.params = s.params

/-- What may move in one step. -/
structure PortMove (s t : State) : Prop where
  rx : t.env.rxStream = s.env.rxStream ∨ (∃ b, t.env.rxStream = s.env.rxStream ++ [b]) ∨
    (s.eng.seq.reading = true ∧ ∃ b, s.env.rxStream = b :: t.env.rxStream)
  tx : t.env.txSent = s.env.txSent ∨ (s.eng.seq = .tx ∧ t.env.txSent = s.env.txSent ++ [s.txData])
  params : t.params = s.params

theorem SamePorts.portMove {s t : State} (h : SamePorts s t) : PortMove s t := ⟨.inl h.rxStream, .inl h.txSent, h.params⟩

theorem Accepted.samePorts {s t : State} (h : Accepted s t) : SamePorts s t := by
  cases h <;> exact ⟨rfl, rfl, rfl⟩

theorem Written.samePorts {s t : State} (h : Written s t) : SamePorts s t := by
  cases h with
  | operand _ w => cases w <;> exact ⟨rfl, rfl, rfl⟩
  | accepted _ a => exact a.samePorts
  | ctrl v => unfold writeCtrl; split <;> exact ⟨rfl, rfl, rfl⟩
  | _ => exact ⟨rfl, rfl, rfl⟩

/-- A byte taken from the stream has left it already: what is done with it moves nothing more. -/
theorem Taken.samePorts {b : Byte} {s t : State} (h : Taken b s t) : SamePorts s t :=
  ⟨by rw [h.env], by rw [h.env], h.sameResults.params⟩

theorem Edge.portMove {s t : State} (h : Edge s t) : PortMove s t := by
  cases h with
  | sent _ hs _ => exact ⟨.inl rfl, .inr ⟨hs, rfl⟩, rfl⟩
  | received b rest _ hr _ hstream =>
    obtain ⟨hrx, htx, hparams⟩ := (rxTransfer_taken (b := b) (s := { s with env.rxStream := rest }) hr).samePorts
    exact ⟨.inr (.inr ⟨hr, b, by rw [hstream, hrx]; rfl⟩), .inl htx, hparams⟩
  | _ => exact SamePorts.portMove ⟨rfl, rfl, rfl⟩

theorem Effect.portMove {s t : State} (h : Effect s t) : PortMove s t := by
  cases h with
  | read addr _ => exact SamePorts.portMove ⟨rfl, rfl, rfl⟩
  | written _ w =>
    obtain ⟨hrx, htx, hparams⟩ := w.samePorts
    exact SamePorts.portMove ⟨hrx, htx, hparams⟩
  | arrived b => exact ⟨.inr (.inl ⟨b, rfl⟩), .inl rfl, rfl⟩
  | edge e => exact e.portMove
  | pin level => cases level <;> exact SamePorts.portMove ⟨rfl, rfl, rfl⟩

/-- Settles O58: of the effects of an event, only an arrival and the two transfers of a clock edge move a byte. -/
theorem bytesMoveOnlyInTheirCommands : Obligations.BytesMoveOnlyInTheirCommands := by
  intro s t hstep
  rcases step_effect hstep with ⟨-, rfl⟩ | ⟨e, rest, -, he⟩
  · exact ⟨.inl rfl, .inl rfl, rfl⟩
  · obtain ⟨hrx, htx, hparams⟩ := he.portMove
    exact ⟨hrx, htx, hparams⟩

end Sys2Proof.Machine

/-! PROOFS. Host accesses (R42, R44, R47, R109): which are refused, and that a read changes nothing. -/

namespace Sys2Proof.Machine

/-! ## Refused accesses -/

theorem hostAccess_refused {size : AccessSize} {addr : BitVec 12} {effect : State → Host.Outcome State Fault Refusal}
    {s : State} (h : s.env.rstN = false ∨ size ≠ .bits32 ∨ addr.toNat % 4 ≠ 0) :
    ∃ r, hostAccess size addr effect s = .refused r := by
  unfold hostAccess
  split_ifs with hn hsize haddr
  · exact ⟨_, rfl⟩
  · exact ⟨_, rfl⟩
  · exact ⟨_, rfl⟩
  · simp [hn, hsize, haddr] at h

/-- A step whose next event is given handles that event. -/
theorem step_cons {s : State} {e : Event} {rest : List Event} (h : s.env.pending = e :: rest) :
    step s = handle e (s.afterEvent rest) := by
  simp [step, stepEvent, h]

/-- Settles O37: reads and writes alike go through `hostAccess`. -/
theorem meaninglessAccessesRefused : Obligations.MeaninglessAccessesRefused := by
  intro s size addr v rest h
  refine ⟨fun hp => ?_, fun hp => ?_⟩
  · rw [step_cons hp, handle]
    exact hostAccess_refused (s := s.afterEvent rest) h
  · rw [step_cons hp, handle]
    exact hostAccess_refused (s := s.afterEvent rest) h

/-! ## A read -/

/-- An aligned 32-bit access out of reset has its effect, in the state that has left reset (R44, log entry 11). -/
theorem hostAccess_aligned {addr : BitVec 12} {effect : State → Host.Outcome State Fault Refusal} {s : State}
    (hn : s.env.rstN = true) (ha : addr.toNat % 4 = 0) : hostAccess .bits32 addr effect s = effect s.leaveReset := by
  simp [hostAccess, hn, ha]

/-- What the Host reads does not depend on the ports nor on what lies beyond them. -/
theorem readWord_env (s : State) (e : Env) (a : BitVec 12) : readWord { s with env := e } a = readWord s a := rfl

/-- Settles O36: of the whole state only `env` differs, which no register, buffer or record reads. -/
theorem hostReadChangesNothing : Obligations.HostReadChangesNothing := by
  intro s addr rest hp hn ha
  refine ⟨answerRead addr (s.afterEvent rest).leaveReset, ?_, rfl, rfl, readWord_env s _⟩
  rw [step_cons hp, handle, hostAccess_aligned (s := s.afterEvent rest) hn ha]

/-! ## The window in the host's address space -/

/-- Settles O47. -/
theorem windowOffsetOfHostAddress : Obligations.WindowOffsetOfHostAddress := by
  intro offset
  have hwindow : Config.kwpBase ≤ Config.hostAddress offset ∧ Config.hostAddress offset < Config.kwpBase + 4096 :=
    ⟨Nat.le_add_right _ _, Nat.add_lt_add_left offset.isLt _⟩
  have hoffset : Config.hostAddress offset - Config.kwpBase = offset.toNat := Nat.add_sub_cancel_left ..
  rw [Config.windowOffset, if_pos hwindow, hoffset, BitVec.ofNat_toNat, BitVec.setWidth_eq]

end Sys2Proof.Machine

/-! PROOFS. What a Host write has no effect on (R9, R45): read-only and reserved offsets, and the reserved bits of a word. -/

namespace Sys2Proof.Machine

/-! ## Offsets that take no write -/

/-- The registers a Host write can reach (R11 to R34). -/
def Reg.writable : Reg → Bool
  | .ctrl | .status | .cmd | .txSid | .txPlen | .rxEchoLen | .rxCap | .viewIn => true
  | _ => false

/-- The targets a Host write can reach. -/
def Target.writable : Target → Bool
  | .reg r => r.writable
  | .txbuf _ => true
  | _ => false

theorem writeReg_readOnly {r : Reg} (h : r.writable = false) (v : Word) (s : State) : writeReg r v s = .next s := by
  cases r
  case ctrl | status | cmd | txSid | txPlen | rxEchoLen | rxCap | viewIn => exact nomatch h
  all_goals rfl

theorem writeWord_readOnly {a : BitVec 12} (h : (targetAt a).writable = false) (v : Word) (s : State) :
    writeWord a v s = .next s := by
  unfold writeWord
  cases htarget : targetAt a with
  | reg r => exact writeReg_readOnly (by simpa [htarget, Target.writable] using h) v s
  | txbuf j => simp [htarget, Target.writable] at h
  | _ => rfl

/-! ## The parts of the map (R43) -/

theorem targetAt_register {a : BitVec 12} (h : a.toNat < 0x100) : targetAt a = regTarget (a.toNat / 4) := if_pos h

theorem regTarget_reserved {n : Nat} (h : 24 ≤ n) : regTarget n = .reserved := by
  obtain ⟨m, rfl⟩ := Nat.exists_eq_add_of_le' h
  rfl

theorem targetAt_txbuf_of_toNat {a : BitVec 12} {j : Nat} (hj : j < 64) (h : a.toNat = 0x100 + 4 * j) :
    targetAt a = .txbuf j := by
  have hindex : (a.toNat - 0x100) / 4 = j := by omega
  rw [targetAt, if_neg (by omega), if_pos (by omega), hindex]

theorem targetAt_rxbuf {a : BitVec 12} (hlo : 0x200 ≤ a.toNat) (hhi : a.toNat < 0x250) :
    targetAt a = .rxbuf ((a.toNat - 0x200) / 4) := by
  rw [targetAt, if_neg (by omega), if_neg (by omega), if_pos (by omega)]

theorem targetAt_dtcTab {a : BitVec 12} (hlo : 0x300 ≤ a.toNat) (hhi : a.toNat < 0x368) :
    targetAt a = .dtcTab ((a.toNat - 0x300) / 4) := by
  rw [targetAt, if_neg (by omega), if_neg (by omega), if_neg (by omega), if_neg (by omega), if_pos (by omega)]

theorem targetAt_reserved {a : BitVec 12}
    (h : (0x060 ≤ a.toNat ∧ a.toNat < 0x100) ∨ (0x250 ≤ a.toNat ∧ a.toNat < 0x300) ∨ 0x368 ≤ a.toNat) :
    targetAt a = .reserved := by
  rcases h with ⟨hlo, hhi⟩ | ⟨hlo, hhi⟩ | hlo
  · rw [targetAt_register hhi]
    exact regTarget_reserved (by omega)
  · rw [targetAt, if_neg (by omega), if_neg (by omega), if_neg (by omega), if_pos (by omega)]
  · rw [targetAt, if_neg (by omega), if_neg (by omega), if_neg (by omega), if_neg (by omega), if_neg (by omega)]

/-- The offsets of the read-only registers name registers that take no write. -/
theorem regTarget_readOnly : ∀ n ∈ [0x000, 0x004, 0x01C, 0x020, 0x024, 0x030, 0x034, 0x038, 0x03C, 0x040, 0x044, 0x04C, 0x050,
    0x054, 0x058, 0x05C], n < 0x100 ∧ (regTarget (n / 4)).writable = false := by decide

theorem readWord_reserved {a : BitVec 12} (h : targetAt a = .reserved) (s : State) : readWord s a = 0 := by
  rw [readWord, h]

theorem writeWord_readOnlyOffset {a : BitVec 12}
    (h : a.toNat ∈ [0x000, 0x004, 0x01C, 0x020, 0x024, 0x030, 0x034, 0x038, 0x03C, 0x040, 0x044, 0x04C, 0x050, 0x054,
        0x058, 0x05C] ∨
      (0x200 ≤ a.toNat ∧ a.toNat < 0x250) ∨ (0x300 ≤ a.toNat ∧ a.toNat < 0x368)) (v : Word) (s : State) :
    writeWord a v s = .next s := by
  refine writeWord_readOnly ?_ v s
  rcases h with h | ⟨hlo, hhi⟩ | ⟨hlo, hhi⟩
  · obtain ⟨hlt, hreg⟩ := regTarget_readOnly _ h
    rw [targetAt_register hlt]
    exact hreg
  · rw [targetAt_rxbuf hlo hhi]
    rfl
  · rw [targetAt_dtcTab hlo hhi]
    rfl

/-! ## Reserved bits read 0 -/

theorem cfgWord_eq : Config.cfgWord = 0x00FE1A50 := by decide

theorem recordWord_lt (r : DtcRecord) : (recordWord r).toNat < 2 ^ 24 := by
  rw [recordWord_toNat]
  omega

theorem ctrlWord_lt (c : Ctrl) : (ctrlWord c).toNat < 2 ^ 2 := by
  have := c.irqEn.toNat_le
  have := c.negDrain.toNat_le
  rw [ctrlWord_toNat]
  omega

theorem statusWord_lt (busy : Bool) (f : Status) : (statusWord busy f).toNat < 2 ^ 11 := by
  have := busy.toNat_le
  have := f.done.toNat_le
  have := f.werr.toNat_le
  have := f.zlen.toNat_le
  rw [statusWord_toNat]
  omega

theorem dtcInfoWord_lt (d : DtcInfo) : (dtcInfoWord d).toNat < 2 ^ 18 := by
  have := d.trunc.toNat_le
  have := d.valid.toNat_le
  rw [dtcInfoWord_toNat]
  omega

/-- Bit 7 of `VIEW_STATUS` lies between the symptom class and `TNC` (R34). -/
theorem statusViewWord_reserved (v : StatusView) :
    (statusViewWord v).toNat < 2 ^ 12 ∧ (statusViewWord v).toNat / 128 % 2 = 0 := by
  have := v.tnc.toNat_le
  have := v.lamp.toNat_le
  rw [statusViewWord_toNat]
  omega

theorem setWidth_word_lt {n : Nat} (x : BitVec n) (h : n ≤ 32 := by decide) : (x.setWidth 32).toNat < 2 ^ n :=
  (setWidth_word_toNat x h).trans_lt x.isLt

theorem readWord_byteRegister (s : State) :
    ∀ b ∈ ([0x014, 0x018, 0x01C, 0x020, 0x02C, 0x030, 0x034, 0x038, 0x03C, 0x040, 0x058] : List (BitVec 12)),
      (readWord s b).toNat < 2 ^ 8 := by
  simp only [List.forall_mem_cons, List.not_mem_nil, false_imp_iff, implies_true, and_true]
  exact ⟨setWidth_word_lt s.tx.sid, setWidth_word_lt s.tx.plen, setWidth_word_lt s.tx.flen, setWidth_word_lt s.tx.csum,
    setWidth_word_lt s.rx.cap, setWidth_word_lt s.rx.len, setWidth_word_lt s.rx.status, setWidth_word_lt s.rx.plen,
    setWidth_word_lt s.rx.csumCalc, setWidth_word_lt s.rx.csumRcvd, setWidth_word_lt s.view.ascii1⟩

theorem readWord_threeByteRegister (s : State) :
    ∀ b ∈ ([0x048, 0x04C, 0x050] : List (BitVec 12)), (readWord s b).toNat < 2 ^ 24 := by
  simp only [List.forall_mem_cons, List.not_mem_nil, false_imp_iff, implies_true, and_true]
  exact ⟨recordWord_lt s.view.input, recordWord_lt s.view.record, setWidth_word_lt s.view.code⟩

/-! ## Reserved bits written -/

theorem getLsbD_and_lowMask {n i : Nat} (v : Word) (h : i < n) (hn : n ≤ 32) :
    (v &&& BitVec.ofNat 32 (2 ^ n - 1)).getLsbD i = v.getLsbD i := by
  simp [BitVec.getLsbD_ofNat, Nat.testBit_two_pow_sub_one, h, Nat.lt_of_lt_of_le h hn]

/-- A field below `n` does not see what a mask of the low `n` bits clears. -/
theorem extractLsb'_and_lowMask {n start len : Nat} (v : Word) (h : start + len ≤ n) (hn : n ≤ 32) :
    (v &&& BitVec.ofNat 32 (2 ^ n - 1)).extractLsb' start len = v.extractLsb' start len := by
  apply BitVec.eq_of_getLsbD_eq
  intro i hi
  rw [BitVec.getLsbD_extractLsb', BitVec.getLsbD_extractLsb', getLsbD_and_lowMask v (by omega) hn]

theorem byteOf_and_byteMask (v : Word) : byteOf (v &&& 0x000000FF) 0 = byteOf v 0 :=
  extractLsb'_and_lowMask (n := 8) v (by decide) (by decide)

theorem recordOfWord_and_recordMask (v : Word) : recordOfWord (v &&& 0x00FFFFFF) = recordOfWord v := by
  have hbyte : ∀ k < 3, byteOf (v &&& 0x00FFFFFF) k = byteOf v k := fun k hk =>
    extractLsb'_and_lowMask (n := 24) v (by omega) (by decide)
  unfold recordOfWord
  rw [hbyte 0 (by decide), hbyte 1 (by decide), hbyte 2 (by decide)]

theorem writeCtrl_and_ctrlMask (v : Word) (s : State) : writeCtrl (v &&& 0x00000007) s = writeCtrl v s := by
  have hbit : ∀ i < 3, (v &&& 0x00000007).getLsbD i = v.getLsbD i := fun i hi =>
    getLsbD_and_lowMask (n := 3) v hi (by decide)
  unfold writeCtrl srstBit ctrlOfWord
  rw [hbit 0 (by decide), hbit 1 (by decide), hbit 2 (by decide)]

theorem writeStatus_and_statusMask (v : Word) (s : State) : writeStatus (v &&& 0x00000006) s = writeStatus v s := by
  have hbit : ∀ i, i = 1 ∨ i = 2 → (v &&& 0x00000006).getLsbD i = v.getLsbD i := fun i hi => by
    rw [BitVec.getLsbD_and, statusMask_getLsbD, decide_eq_true hi, Bool.and_true]
  unfold writeStatus clearStatus
  rw [hbit 1 (.inl rfl), hbit 2 (.inr rfl)]

/-- A busy-locked write depends on its word through the value it stores. -/
theorem lockedWrite_congr {α : Type} {x y : α} (s : State) (write : α → State → State) (h : x = y) :
    (.next (s.lockedWrite (write x)) : Host.Outcome State Fault Refusal) = .next (s.lockedWrite (write y)) := by
  rw [h]

theorem writeWord_byteOperand (v : Word) (s : State) :
    ∀ b ∈ ([0x014, 0x018, 0x02C] : List (BitVec 12)), writeWord b v s = writeWord b (v &&& 0x000000FF) s := by
  have hbyte := (byteOf_and_byteMask v).symm
  simp only [List.forall_mem_cons, List.not_mem_nil, false_imp_iff, implies_true, and_true]
  exact ⟨lockedWrite_congr s (fun b s => { s with tx.sid := b }) hbyte,
    lockedWrite_congr s (fun b s => { s with tx.plen := b }) hbyte,
    lockedWrite_congr s (fun b s => { s with rx.cap := b }) hbyte⟩

/-- Settles O40, part by part: reserved offsets, read-only ones, reserved bits read, and reserved bits written. -/
theorem reservedReadsZeroWritesIgnored : Obligations.ReservedReadsZeroWritesIgnored := by
  intro s a v _
  refine ⟨fun h => ?_, fun h => writeWord_readOnlyOffset h v s, ?_, ?_⟩
  · have htarget := targetAt_reserved h
    exact ⟨readWord_reserved htarget s, writeWord_readOnly (by rw [htarget]; rfl) v s⟩
  · obtain ⟨hview, hviewBit7⟩ := statusViewWord_reserved s.view.status
    refine ⟨cfgWord_eq, ctrlWord_lt s.ctrl, statusWord_lt s.busy s.stat, rfl, readWord_byteRegister s,
      setWidth_word_lt s.tx.count, setWidth_word_lt s.rx.echoLen, dtcInfoWord_lt s.dtc, readWord_threeByteRegister s, hview,
      hviewBit7, fun hlo hhi => ?_⟩
    rw [readWord, targetAt_dtcTab hlo hhi]
    exact recordWord_lt _
  · have hecho : (v &&& 0x0000FFFF).extractLsb' 0 16 = v.extractLsb' 0 16 :=
      extractLsb'_and_lowMask (n := 16) v (by decide) (by decide)
    exact ⟨congrArg Host.Outcome.next (writeCtrl_and_ctrlMask v s).symm,
      congrArg Host.Outcome.next (writeStatus_and_statusMask v s).symm, writeWord_byteOperand v s,
      lockedWrite_congr s (fun n s => { s with rx.echoLen := n }) hecho.symm,
      lockedWrite_congr s (fun r s => { s with view.input := r }) (recordOfWord_and_recordMask v).symm⟩

end Sys2Proof.Machine

/-! PROOFS. The byte buffers as words (R46): four bytes a word, the lowest first. -/

namespace Sys2Proof.Machine

/-! ## Bytes and words -/

theorem byteOf_toNat (w : Word) (k : Nat) : (byteOf w k).toNat = w.toNat / 256 ^ k % 256 := by
  rw [byteOf, BitVec.extractLsb'_toNat, Nat.shiftRight_eq_div_pow, Nat.pow_mul]

theorem packBytes_byteOf (v : Word) : packBytes (byteOf v 0) (byteOf v 1) (byteOf v 2) (byteOf v 3) = v := by
  apply BitVec.eq_of_toNat_eq
  have := v.isLt
  simp only [packBytes_toNat, byteOf_toNat]
  omega

theorem byteOf_bufferWord (byteAt : Nat → Byte) (j : Nat) {k : Nat} (hk : k < 4) :
    byteOf (bufferWord byteAt j) k = byteAt (4 * j + k) := by
  apply BitVec.eq_of_toNat_eq
  rw [byteOf_toNat, bufferWord, packBytes_toNat]
  match k with
  | 0 =>
    change _ = (byteAt (4 * j)).toNat
    omega
  | 1 | 2 | 3 => omega

theorem bufferWord_congr {f g : Nat → Byte} {j : Nat} (h : ∀ k < 4, f (4 * j + k) = g (4 * j + k)) :
    bufferWord f j = bufferWord g j := by
  unfold bufferWord
  rw [h 1 (by decide), h 2 (by decide), h 3 (by decide), show f (4 * j) = g (4 * j) from h 0 (by decide)]

/-! ## A word of TXBUF written -/

theorem txByte_putTxWord {j k : Nat} (v : Word) (s : State) (hk : k < 4) :
    (putTxWord j v s).txByte (4 * j + k) = byteOf v k := by
  unfold putTxWord
  match k with
  | 0 =>
    rw [txByte_putTx_other _ _ (by omega), txByte_putTx_other _ _ (by omega), txByte_putTx_other _ _ (by omega)]
    exact txByte_putTx_same _ _ _
  | 1 => rw [txByte_putTx_other _ _ (by omega), txByte_putTx_other _ _ (by omega), txByte_putTx_same]
  | 2 => rw [txByte_putTx_other _ _ (by omega), txByte_putTx_same]
  | 3 => exact txByte_putTx_same _ _ _

theorem bufferWord_putTxWord (j : Nat) (v : Word) (s : State) : bufferWord (putTxWord j v s).txByte j = v := by
  have hbyte : ∀ k < 4, (putTxWord j v s).txByte (4 * j + k) = byteOf v k := fun _ => txByte_putTxWord v s
  calc bufferWord (putTxWord j v s).txByte j
      = packBytes (byteOf v 0) (byteOf v 1) (byteOf v 2) (byteOf v 3) := by
        rw [bufferWord, hbyte 1 (by decide), hbyte 2 (by decide), hbyte 3 (by decide)]
        exact congrArg (packBytes · _ _ _) (hbyte 0 (by decide))
    _ = v := packBytes_byteOf v

theorem bufferWord_putTxWord_other {j j' : Nat} (v : Word) (s : State) (h : j' ≠ j) :
    bufferWord (putTxWord j v s).txByte j' = bufferWord s.txByte j' :=
  bufferWord_congr fun _ _ => putTxWord_txByte_other v s (by omega)

/-- No word of TXBUF reaches RXBUF. -/
theorem rxHostByte_putTxWord {j : Nat} (v : Word) (s : State) (hj : j < 64) :
    (putTxWord j v s).rxHostByte = s.rxHostByte := by
  funext i
  have hcell : (putTxWord j v s).rxCell i = s.rxCell i := by
    unfold putTxWord
    rw [rxCell_putTx _ _ _ (by omega), rxCell_putTx _ _ _ (by omega), rxCell_putTx _ _ _ (by omega),
      rxCell_putTx _ _ _ (by omega)]
  unfold State.rxHostByte
  rw [hcell]
  rfl

/-- Every aligned offset but that of the word reads as before. -/
theorem readWord_putTxWord_other {a b : BitVec 12} {j : Nat} (v : Word) (s : State) (ha : targetAt a = .txbuf j)
    (haligned : a.toNat % 4 = 0) (hb : b.toNat % 4 = 0) (hne : b ≠ a) :
    readWord (putTxWord j v s) b = readWord s b := by
  unfold readWord
  cases hbt : targetAt b with
  | reg r => cases r <;> rfl
  | txbuf j' =>
    refine bufferWord_putTxWord_other v s fun hj => hne ?_
    exact offsetsNameDistinctTargets b a hb haligned (by rw [hbt, ha, hj]) (by simp [hbt])
  | rxbuf _ => exact congrArg (bufferWord · _) (rxHostByte_putTxWord v s (targetAt_txbuf ha))
  | dtcTab _ => rfl
  | reserved => rfl

theorem writeWord_txbuf {a : BitVec 12} {j : Nat} {v : Word} {s : State} (ha : targetAt a = .txbuf j)
    (hs : s.eng.seq = .idle) : writeWord a v s = .next (putTxWord j v s) := by
  rw [writeWord, ha]
  exact congrArg Host.Outcome.next (lockedWrite_idle _ hs)

/-! ## Reads of RXBUF and DTC_TAB -/

theorem rxHostByte_payload {s : State} {i : Nat} (hs : s.eng.seq = .idle) (hi : i < s.rx.plen.toNat) :
    s.rxHostByte i = s.rxCell i := by
  simp [State.rxHostByte, busy_eq_false.2 hs, hi]

theorem recordWord_eq (r : DtcRecord) : recordWord r = (0 : Byte) ++ r.status ++ r.low ++ r.high := rfl

theorem dtcRecord_eq_getElem (s : State) {k : Nat} (hk : k < 26) : s.dtcRecord k = s.dtcTab[k] := by
  rw [State.dtcRecord, Vector.getElem?_eq_getElem hk, Option.getD_some]

/-- Settles O43: TXBUF by what a word written does to each byte, the other buffers by the bytes of their words. -/
theorem buffersPackLittleEndian : Obligations.BuffersPackLittleEndian := by
  intro s
  refine ⟨fun a v j hs hj ha => ?_, fun a i hs hi hi80 ha => ?_, fun a k hk ha => ?_, rfl, rfl⟩
  · have htarget := targetAt_txbuf_of_toNat hj ha
    refine ⟨putTxWord j v s, writeWord_txbuf htarget hs, ?_, fun k hk => ?_, fun i hi => ?_, fun b hb hne => ?_⟩
    · rw [readWord, htarget]
      exact bufferWord_putTxWord j v s
    · rw [txByte_putTxWord v s hk, byteOf_toNat]
    · exact putTxWord_txByte_other v s (by omega)
    · exact readWord_putTxWord_other v s htarget (by omega) hb hne
  · have htarget : targetAt a = .rxbuf (i / 4) := by
      have hindex : (a.toNat - 0x200) / 4 = i / 4 := by omega
      rw [targetAt_rxbuf (by omega) (by omega), hindex]
    rw [readWord, htarget, ← byteOf_toNat, byteOf_bufferWord _ _ (Nat.mod_lt _ (by decide)), Nat.div_add_mod,
      rxHostByte_payload hs hi]
  · have htarget : targetAt a = .dtcTab k := by
      have hindex : (a.toNat - 0x300) / 4 = k := by omega
      rw [targetAt_dtcTab (by omega) (by omega), hindex]
    rw [readWord, htarget]
    dsimp only
    rw [dtcRecord_eq_getElem s hk, recordWord_eq]

end Sys2Proof.Machine

/-! PROOFS. Command words (R60 to R63): the decoder answers a command exactly for the word of that command. -/

namespace Sys2Proof

/-! ## A word is its four fields (R60) -/

theorem word_eq_of_fields {v w : Word} (hres : reservedField v = reservedField w) (hsrc : srcField v = srcField w)
    (hidx : idxField v = idxField w) (hop : opField v = opField w) : v = w := by
  have hres := congrArg BitVec.toNat hres
  have hsrc := congrArg BitVec.toNat hsrc
  have hidx := congrArg BitVec.toNat hidx
  have hop := congrArg BitVec.toNat hop
  simp only [reservedField_toNat, srcField_toNat, idxField_toNat, opField_toNat] at hres hsrc hidx hop
  apply BitVec.eq_of_toNat_eq
  omega

theorem packCommand_fields {w : Word} (h : reservedField w = 0) : packCommand (srcField w) (idxField w) (opField w) = w :=
  word_eq_of_fields (by rw [reservedField_packCommand, h]) (srcField_packCommand ..) (idxField_packCommand ..)
    (opField_packCommand ..)

/-! ## The decoder by the fields (R62, R63) -/

theorem dtcView_wf {idx : Nat} : (Instr.dtcView idx).wf = true ↔ idx < 256 := decide_eq_true_iff

@[simp] theorem decode_packCommand (src : BitVec 1) (idx op : Byte) :
    decode (packCommand src idx op) = decodeFields op idx src := by
  simp [decode]

theorem decode_ok {w : Word} {i : Instr} (h : decode w = .ok i) :
    reservedField w = 0 ∧ decodeFields (opField w) (idxField w) (srcField w) = .ok i := by
  unfold decode at h
  split at h
  · cases h
  · rename_i hres
    exact ⟨not_not.1 hres, h⟩

/-- A plain row (R62): fields that decode to its command are those of its word. -/
theorem plainCommand_ok {op idx : Byte} {src : BitVec 1} {i j : Instr} (hwf : i.wf = true)
    (hencode : encode i = packCommand 0 0 op) (h : plainCommand idx src i = .ok j) :
    j.wf = true ∧ encode j = packCommand src idx op := by
  unfold plainCommand at h
  split at h
  · rename_i hzero
    obtain ⟨rfl, rfl⟩ := hzero
    cases h
    exact ⟨hwf, hencode⟩
  · cases h

theorem viewCommand_ok {idx : Byte} {src : BitVec 1} {i : Instr} (h : viewCommand idx src = .ok i) :
    src = 0 ∧ i = .dtcView idx.toNat ∨ src = 1 ∧ idx = 0 ∧ i = .dtcViewIn := by
  unfold viewCommand at h
  split at h
  · cases h
    exact .inl ⟨‹_›, rfl⟩
  · rename_i hsrc
    split at h
    · cases h
      exact .inr ⟨(BitVec.eq_zero_or_eq_one src).resolve_left hsrc, ‹_›, rfl⟩
    · cases h

/-- Fields that decode are those the encoder packs, one case a row of the opcode map (R62). -/
theorem decodeFields_ok {op idx : Byte} {src : BitVec 1} {i : Instr} (h : decodeFields op idx src = .ok i) :
    i.wf = true ∧ encode i = packCommand src idx op := by
  unfold decodeFields at h
  split at h
  · subst op
    exact plainCommand_ok rfl rfl h
  split at h
  · subst op
    exact plainCommand_ok rfl rfl h
  split at h
  · subst op
    exact plainCommand_ok rfl rfl h
  split at h
  · subst op
    exact plainCommand_ok rfl rfl h
  split at h
  · subst op
    obtain ⟨rfl, rfl⟩ | ⟨rfl, rfl, rfl⟩ := viewCommand_ok h
    · exact ⟨dtcView_wf.2 idx.isLt, by rw [encode, BitVec.ofNat_toNat, BitVec.setWidth_eq]⟩
    · exact ⟨rfl, rfl⟩
  · cases h

/-! ## Decoding and encoding -/

/-- Settles O1: the decoder on the fields the encoder packs, one case a command. -/
theorem decodeEncodeRoundTrip : Obligations.DecodeEncodeRoundTrip := by
  intro i hwf
  cases i with
  | encode => exact decode_packCommand 0 0 0x01
  | send => exact decode_packCommand 0 0 0x02
  | readResp => exact decode_packCommand 0 0 0x03
  | dtcDecode => exact decode_packCommand 0 0 0x04
  | dtcView idx =>
    calc decode (encode (.dtcView idx))
        = .ok (.dtcView (BitVec.ofNat 8 idx).toNat) := decode_packCommand 0 (BitVec.ofNat 8 idx) 0x05
      _ = .ok (.dtcView idx) := by rw [BitVec.toNat_ofNat, Nat.mod_eq_of_lt (dtcView_wf.1 hwf)]
  | dtcViewIn => exact decode_packCommand 1 0 0x05

/-- Settles O2: no reserved bit is set, and the other fields are those the encoder packs. -/
theorem encodeDecodeRoundTrip : Obligations.EncodeDecodeRoundTrip := by
  intro w i h
  obtain ⟨hres, hfields⟩ := decode_ok h
  obtain ⟨hwf, hencode⟩ := decodeFields_ok hfields
  exact ⟨hwf, hencode.trans (packCommand_fields hres)⟩

theorem decode_eq_ok_iff {w : Word} {i : Instr} : decode w = .ok i ↔ i.wf = true ∧ encode i = w := by
  constructor
  · exact encodeDecodeRoundTrip w i
  · rintro ⟨hwf, rfl⟩
    exact decodeEncodeRoundTrip i hwf

/-- Settles O5: each word is the one the encoder writes. -/
theorem opcodeMapWordsDecode : Obligations.OpcodeMapWordsDecode :=
  ⟨decodeEncodeRoundTrip .encode rfl, decodeEncodeRoundTrip .send rfl, decodeEncodeRoundTrip .readResp rfl,
    decodeEncodeRoundTrip .dtcDecode rfl, decodeEncodeRoundTrip (.dtcView 1) rfl, decodeEncodeRoundTrip .dtcViewIn rfl⟩

/-! ## Match and mask (R62) -/

/-- A row whose mask is all ones: the word is the match. -/
theorem decode_eq_ok_iff_fullMask {w : Word} {i : Instr} (hwf : i.wf = true) :
    decode w = .ok i ↔ w &&& 0xFFFFFFFF = encode i := by
  rw [decode_eq_ok_iff, and_iff_right hwf, eq_comm, show (0xFFFFFFFF : Word) = BitVec.allOnes 32 from rfl,
    BitVec.and_allOnes]

/-- The mask of DTC_VIEW clears `IDX` and keeps every other field. -/
theorem fields_and_viewMask (w : Word) :
    reservedField (w &&& 0xFFFF00FF) = reservedField w ∧ srcField (w &&& 0xFFFF00FF) = srcField w ∧
      idxField (w &&& 0xFFFF00FF) = 0 ∧ opField (w &&& 0xFFFF00FF) = opField w := by
  unfold reservedField srcField idxField opField
  simp only [BitVec.extractLsb'_and]
  exact ⟨BitVec.and_allOnes, BitVec.and_allOnes, BitVec.and_zero, BitVec.and_allOnes⟩

/-- The word of DTC_VIEW: its match under its mask, and the index in `IDX`. -/
theorem encode_dtcView_eq_iff {w : Word} {idx : Nat} (h : idx < 256) :
    encode (.dtcView idx) = w ↔ w &&& 0xFFFF00FF = encode (.dtcView 0) ∧ (idxField w).toNat = idx := by
  obtain ⟨hres, hsrc, hidx, hop⟩ := fields_and_viewMask w
  constructor
  · rintro rfl
    refine ⟨word_eq_of_fields ?_ ?_ ?_ ?_, ?_⟩
    · rw [hres, encode, encode, reservedField_packCommand, reservedField_packCommand]
    · rw [hsrc, encode, encode, srcField_packCommand, srcField_packCommand]
    · rw [hidx, encode, idxField_packCommand]
      rfl
    · rw [hop, encode, encode, opField_packCommand, opField_packCommand]
    · rw [encode, idxField_packCommand, BitVec.toNat_ofNat, Nat.mod_eq_of_lt h]
  · rintro ⟨hmatch, rfl⟩
    rw [hmatch] at hres hsrc hop
    simp only [encode, reservedField_packCommand, srcField_packCommand, opField_packCommand] at hres hsrc hop
    rw [encode, BitVec.ofNat_toNat, BitVec.setWidth_eq, hsrc, hop, packCommand_fields hres.symm]

/-- The operation codes of the opcode map are 1 to 5. -/
theorem decode_ok_opField {w : Word} {i : Instr} (h : decode w = .ok i) : 1 ≤ w.toNat % 256 ∧ w.toNat % 256 ≤ 5 := by
  obtain ⟨-, rfl⟩ := decode_eq_ok_iff.1 h
  rw [← opField_toNat]
  cases i <;> simp [encode]

/-- Settles O3. -/
theorem decodeFollowsMatchAndMask : Obligations.DecodeFollowsMatchAndMask := by
  intro w
  refine ⟨decode_eq_ok_iff_fullMask rfl, decode_eq_ok_iff_fullMask rfl, decode_eq_ok_iff_fullMask rfl,
    decode_eq_ok_iff_fullMask rfl, fun idx => ?_, decode_eq_ok_iff_fullMask rfl, fun hop => ?_⟩
  · rw [decode_eq_ok_iff, dtcView_wf, ← idxField_toNat]
    constructor
    · rintro ⟨hlt, hw⟩
      exact (encode_dtcView_eq_iff hlt).1 hw
    · rintro ⟨hmatch, rfl⟩
      exact ⟨(idxField w).isLt, (encode_dtcView_eq_iff (idxField w).isLt).2 ⟨hmatch, rfl⟩⟩
  · cases hw : decode w with
    | error e => exact ⟨e, rfl⟩
    | ok i =>
      have := decode_ok_opField hw
      omega

end Sys2Proof

/-! PROOFS. A `CMD` write of an illegal word, and of a DTC_VIEW beyond the table (R63, R90, R92). -/

namespace Sys2Proof.Machine

/-! ## Which words are illegal (R63) -/

theorem encode_dtcView_toNat {idx : Nat} (h : idx < 256) : (encode (.dtcView idx)).toNat = idx * 256 + 5 := by
  simp [encode, packCommand_toNat, Nat.mod_eq_of_lt h]

/-- No word of a command is illegal. -/
theorem not_illegalWord_encode {i : Instr} (hwf : i.wf = true) : ¬ illegalWord (encode i).toNat := by
  cases i with
  | dtcView idx =>
    have hlt := dtcView_wf.1 hwf
    rw [encode_dtcView_toNat hlt]
    unfold illegalWord
    omega
  | _ => simp [illegalWord, encode, packCommand_toNat]

/-- A word whose value is that of a command's word decodes to it. -/
theorem decode_of_toNat {w : Word} {i : Instr} (hwf : i.wf = true) (h : w.toNat = (encode i).toNat) : decode w = .ok i :=
  decode_eq_ok_iff.2 ⟨hwf, (BitVec.eq_of_toNat_eq h).symm⟩

theorem decode_dtcView_of_fields {w : Word} (hlegal : ¬ illegalWord w.toNat) (hop : w.toNat % 256 = 5)
    (hsrc : w.toNat / 65536 % 2 = 0) : decode w = .ok (.dtcView (w.toNat / 256 % 256)) := by
  have hidx : w.toNat / 256 % 256 < 256 := Nat.mod_lt _ (by decide)
  refine decode_of_toNat (dtcView_wf.2 hidx) ?_
  rw [encode_dtcView_toNat hidx]
  unfold illegalWord at hlegal
  omega

/-- Every word that is not illegal is a command's, one for each operation code and, for 0x05, each `SRC`. -/
theorem decode_of_not_illegalWord {w : Word} (h : ¬ illegalWord w.toNat) : ∃ i, decode w = .ok i := by
  by_cases hview : w.toNat % 256 = 5 ∧ w.toNat / 65536 % 2 = 0
  · exact ⟨_, decode_dtcView_of_fields h hview.1 hview.2⟩
  · have hcases : w.toNat = 1 ∨ w.toNat = 2 ∨ w.toNat = 3 ∨ w.toNat = 4 ∨ w.toNat = 0x10005 := by
      unfold illegalWord at h
      omega
    obtain hw | hw | hw | hw | hw := hcases
    · exact ⟨.encode, decode_of_toNat rfl hw⟩
    · exact ⟨.send, decode_of_toNat rfl hw⟩
    · exact ⟨.readResp, decode_of_toNat rfl hw⟩
    · exact ⟨.dtcDecode, decode_of_toNat rfl hw⟩
    · exact ⟨.dtcViewIn, decode_of_toNat rfl hw⟩

theorem decode_of_illegalWord {w : Word} (h : illegalWord w.toNat) : ∃ e, decode w = .error e := by
  cases hw : decode w with
  | error e => exact ⟨e, rfl⟩
  | ok i =>
    obtain ⟨hwf, rfl⟩ := decode_eq_ok_iff.1 hw
    exact absurd h (not_illegalWord_encode hwf)

/-! ## The `CMD` write -/

theorem writeCmd_ok {w : Word} {i : Instr} (h : decode w = .ok i) (s : State) : writeCmd w s = exec i s := by
  rw [writeCmd, h]

theorem writeCmd_error {w : Word} {e : DecodeError} (h : decode w = .error e) (s : State) :
    writeCmd w s = submit (fun s => s.refuse .illegalCmd) s := by
  rw [writeCmd, h]

/-- A refusal overwrites the two fields the submission has cleared. -/
theorem beginCommand_refuse (s : State) (code : CmdError) :
    s.beginCommand.refuse code = { s with stat.err := code, stat.done := true } := rfl

theorem acceptDtcView_refused {s : State} {idx : Nat} (h : s.dtc.neff.toNat ≤ idx) :
    acceptDtcView idx s = s.refuse .badIndex := by
  simp [acceptDtcView, State.badIndex, h]

/-- Settles O4: an illegal word does not decode, any other does, and no `NEFF` exceeds an index from 26 on. -/
theorem illegalWordsRefused : Obligations.IllegalWordsRefused := by
  intro w s hidle
  refine ⟨fun hillegal => ?_, decode_of_not_illegalWord, fun hlegal hop hsrc hidx hneff => ?_⟩
  · obtain ⟨e, he⟩ := decode_of_illegalWord hillegal
    rw [writeCmd_error he, submit_idle _ hidle, beginCommand_refuse]
  · rw [writeCmd_ok (decode_dtcView_of_fields hlegal hop hsrc), exec_idle _ hidle, acceptance,
      acceptDtcView_refused (s := s.beginCommand) (hneff.trans hidx), beginCommand_refuse]

end Sys2Proof.Machine

/-! PROOFS. The status byte in `VIEW_STATUS` (R34, R70). -/

namespace Sys2Proof.Machine

theorem symptomCode_le (c : Config.SymptomClass) : (symptomCode c).toNat ≤ 5 := by cases c <;> decide

theorem getLsbD_toNat {n : Nat} (x : BitVec n) (i : Nat) : (x.getLsbD i).toNat = x.toNat / 2 ^ i % 2 := by
  rw [BitVec.getLsbD, Nat.toNat_testBit]

/-- Each field of `VIEW_STATUS` is in its own place, and no bit lies between or above them (R34). -/
theorem statusViewWord_fields (v : StatusView) :
    let w := (statusViewWord v).toNat
    w % 16 = v.symRaw.toNat ∧ w / 16 % 8 = (symptomCode v.symClass).toNat ∧ w / 128 % 2 = 0 ∧ w / 256 % 2 = v.tnc.toNat ∧
      w / 512 % 4 = v.mat.toNat ∧ w / 2048 % 2 = v.lamp.toNat ∧ w / 4096 = 0 := by
  have := symptomCode_le v.symClass
  have := v.tnc.toNat_le
  have := v.lamp.toNat_le
  rw [statusViewWord_toNat]
  dsimp only
  omega

/-- The fields of a status byte as numbers: raw symptom, test not complete, maturity, lamp. -/
theorem describeStatus_toNat (p : Params) (st : Byte) :
    (describeStatus p st).symRaw.toNat = st.toNat % 16 ∧ (describeStatus p st).tnc.toNat = st.toNat / 16 % 2 ∧
      (describeStatus p st).mat.toNat = st.toNat / 32 % 4 ∧ (describeStatus p st).lamp.toNat = st.toNat / 128 := by
  have hlamp : st.toNat / 128 % 2 = st.toNat / 128 := by omega
  refine ⟨?_, getLsbD_toNat st 4, ?_, (getLsbD_toNat st 7).trans hlamp⟩
  · rw [describeStatus, BitVec.extractLsb'_toNat, Nat.shiftRight_zero]
  · rw [describeStatus, BitVec.extractLsb'_toNat, Nat.shiftRight_eq_div_pow]

/-- Settles O34: each field of the word is a field of the view, which is one of the status byte. -/
theorem statusViewFields : Obligations.StatusViewFields := by
  intro p st
  obtain ⟨hraw, htnc, hmat, hlamp⟩ := describeStatus_toNat p st
  obtain ⟨wraw, wclass, wreserved, wtnc, wmat, wlamp, whigh⟩ := statusViewWord_fields (describeStatus p st)
  exact ⟨wraw.trans hraw, wclass.trans_le (symptomCode_le _), wreserved, wtnc.trans htnc, wmat.trans hmat,
    wlamp.trans hlamp, whigh⟩

end Sys2Proof.Machine

/-! PROOFS. The request frame and its checksum (R65, R73), and what ENCODE and SEND do at acceptance (R74, R75). -/

namespace Sys2Proof.Machine

/-! ## The checksum (R73) -/

theorem reqChecksum_toNat (sid : Byte) (p : List Byte) :
    (reqChecksum sid p).toNat = (1 + p.length + sid.toNat + (p.map BitVec.toNat).sum) % 256 := BitVec.toNat_ofNat ..

/-- The length byte of a payload of at most 254 bytes is not reduced (R65). -/
theorem lengthByte_toNat {n : Nat} (h : n ≤ 254) : (BitVec.ofNat 8 (1 + n)).toNat = 1 + n := by
  rw [BitVec.toNat_ofNat, Nat.mod_eq_of_lt (by omega)]

/-- Settles O13: the length byte of a payload of at most 254 bytes is `1 + n` itself. -/
theorem requestChecksumFormula : Obligations.RequestChecksumFormula := by
  intro sid p hp
  refine ⟨reqChecksum_toNat sid p, ?_, reqChecksum_toNat sid [], by decide⟩
  rw [lengthByte_toNat hp, reqChecksum_toNat]

/-! ## The frame (R65) -/

@[simp] theorem txPayload_length (s : State) : s.txPayload.length = s.tx.plen.toNat := by simp [State.txPayload]

theorem requestFrame_length (sid : Byte) (p : List Byte) : (requestFrame sid p).length = p.length + 3 := by
  simp [requestFrame]

/-- The request registers hold the frame of `TX_SID`, `TX_PLEN` and TXBUF (R74, R75). -/
structure State.RequestHeld (s : State) : Prop where
  plen : s.tx.plen.toNat ≤ 254
  flen : s.tx.flen.toNat = 1 + s.tx.plen.toNat
  csum : s.tx.csum = reqChecksum s.tx.sid s.txPayload
  count : s.tx.count.toNat = s.tx.plen.toNat + 3

theorem State.RequestHeld.putRequest {s : State} (h : s.tx.plen.toNat ≤ 254) : s.putRequest.RequestHeld where
  plen := h
  flen := lengthByte_toNat h
  csum := rfl
  count := by
    rw [State.putRequest_tx_count, BitVec.toNat_ofNat]
    exact Nat.mod_eq_of_lt (by omega)

/-- Read as SEND transmits it, from the registers and TXBUF, the frame is the request frame (R75). -/
theorem State.RequestHeld.requestFrame_getElem? {s : State} (h : s.RequestHeld) {i : Nat}
    (hi : i < s.tx.plen.toNat + 3) : (requestFrame s.tx.sid s.txPayload)[i]? = some (s.frameByte i) := by
  match i with
  | 0 =>
    have hflen : BitVec.ofNat 8 (1 + s.tx.plen.toNat) = s.tx.flen := by
      rw [← h.flen, BitVec.ofNat_toNat, BitVec.setWidth_eq]
    simp [requestFrame, State.frameByte, hflen]
  | 1 => rfl
  | k + 2 =>
    have htail : (requestFrame s.tx.sid s.txPayload)[k + 2]? = (s.txPayload ++ [s.tx.csum])[k]? := by
      rw [h.csum]
      rfl
    rw [htail]
    by_cases hk : k < s.tx.plen.toNat
    · rw [List.getElem?_append_left (by rwa [txPayload_length])]
      simp [State.txPayload, State.frameByte, hk]
    · have hlast : k = s.txPayload.length := by
        rw [txPayload_length]
        omega
      rw [hlast, List.getElem?_concat_length]
      simp [State.frameByte]

/-! ## ENCODE and SEND at acceptance -/

theorem plenTooLong_eq_false {s : State} : s.plenTooLong = false ↔ s.tx.plen.toNat ≤ 254 := by
  simp [State.plenTooLong, Config.txPlenMax]

theorem acceptEncode_ok {s : State} (h : s.tx.plen.toNat ≤ 254) : acceptEncode s = s.putRequest.complete := by
  simp [acceptEncode, plenTooLong_eq_false.2 h]

theorem acceptSend_ok {s : State} (h : s.tx.plen.toNat ≤ 254) : acceptSend s = s.putRequest.startSend := by
  simp [acceptSend, plenTooLong_eq_false.2 h]

theorem plenTooLong_of_255 {s : State} (h : s.tx.plen.toNat = 255) : s.plenTooLong = true := by
  simp [State.plenTooLong, Config.txPlenMax, h]

theorem exec_send_ok {s : State} (hs : s.eng.seq = .idle) (hp : s.tx.plen.toNat ≤ 254) :
    exec .send s = .next s.beginCommand.putRequest.startSend := by
  rw [exec_idle _ hs, acceptance, acceptSend_ok (s := s.beginCommand) hp]

/-- Settles O15. -/
theorem encodeAndSendRefuseLength255 : Obligations.EncodeAndSendRefuseLength255 := by
  intro s hs hp
  have hlong : s.beginCommand.plenTooLong = true := plenTooLong_of_255 hp
  constructor
  · rw [exec_idle _ hs, acceptance, acceptEncode, if_pos hlong, beginCommand_refuse]
  · rw [exec_idle _ hs, acceptance, acceptSend, if_pos hlong, beginCommand_refuse]

/-- An acceptance that completes at once leaves the Sequencer as it was. -/
theorem complete_eng_of_idle {s : State} (hs : s.eng.seq = .idle) : s.complete.eng = s.eng := by
  change { s.eng with seq := .idle } = s.eng
  rw [← hs]

theorem sameBuffers_of_mem {s t : State} (hm : t.mem = s.mem) (hf : t.free.txBase = s.free.txBase)
    (hr : t.free.rx = s.free.rx) : SameBuffers s t :=
  ⟨fun _ => by rw [hm], txByte_congr hm hf, rxCell_congr hm hr⟩

/-- Settles O14: the next state is `putRequest` and the completion, written out. -/
theorem encodeWritesRequestRegisters : Obligations.EncodeWritesRequestRegisters := by
  intro s hs hp
  have held : s.beginCommand.putRequest.RequestHeld := .putRequest hp
  have hexec : exec .encode s = .next s.beginCommand.putRequest.complete := by
    rw [exec_idle _ hs, acceptance, acceptEncode_ok (s := s.beginCommand) hp]
  have hcsum : (reqChecksum s.tx.sid s.txPayload).toNat =
      (1 + s.tx.plen.toNat + s.tx.sid.toNat + ((List.range s.tx.plen.toNat).map fun i => (s.txByte i).toNat).sum) % 256 := by
    rw [reqChecksum_toNat, txPayload_length, State.txPayload, List.map_map]
    rfl
  exact ⟨_, hexec, held.flen, hcsum, held.count, rfl, rfl, rfl, rfl, rfl, rfl, rfl, rfl, rfl, complete_eng_of_idle hs, rfl,
    rfl, rfl, sameBuffers_of_mem rfl rfl rfl⟩

/-- The bytes left at SEND's acceptance fit its counter. -/
theorem startSend_cnt_toNat (s : State) : s.startSend.eng.cnt.toNat = s.tx.plen.toNat + 3 := by
  have := s.tx.plen.isLt
  rw [State.startSend_eng_cnt, BitVec.toNat_ofNat]
  omega

theorem startSend_transfersDone (s : State) : s.startSend.transfersDone = false := by
  refine transfersDone_eq_false fun hc => ?_
  have hcnt := startSend_cnt_toNat s
  rw [hc] at hcnt
  simp at hcnt

/-- Settles O16: the next state is `putRequest` and the start of the transmission, written out. -/
theorem sendStartsTransmission : Obligations.SendStartsTransmission := by
  intro s hs hp
  have held : s.beginCommand.putRequest.RequestHeld := .putRequest hp
  have hports (hr : s.inReset = false) : s.beginCommand.putRequest.startSend.txValid = true ∧
      s.beginCommand.putRequest.startSend.rxReady = false := by
    have hr : s.beginCommand.putRequest.startSend.inReset = false := hr
    simp [State.txValid, State.rxReady, hr, startSend_transfersDone, Seq.reading]
  exact ⟨_, exec_send_ok hs hp, held.flen, rfl, held.count, rfl, rfl, rfl, rfl, held.flen, hports, rfl, rfl, rfl, rfl, rfl,
    rfl, rfl, rfl, rfl, sameBuffers_of_mem rfl rfl rfl⟩

end Sys2Proof.Machine

/-! PROOFS. SEND puts its request frame on the line, whatever the Host does meanwhile (R52, R56, R75). -/

namespace Sys2Proof.Machine

/-! ## The bytes on the line -/

/-- SEND has put the bytes of its frame before the one it offers on the line, after those that stood there before it. -/
structure State.SendingAfter (before : List Byte) (s : State) : Prop where
  held : s.RequestHeld
  left : s.eng.txi.toNat + s.eng.cnt.toNat = s.tx.plen.toNat + 3
  line : s.env.txSent = before ++ (requestFrame s.tx.sid s.txPayload).take s.eng.txi.toNat

theorem sendOk_iff {s : State} : s.sendOk ↔ (s.eng.seq = .tx → ∃ before, s.SendingAfter before) := by
  refine forall_congr' fun _ => ⟨?_, ?_⟩
  · rintro ⟨hplen, hflen, hcsum, hcount, hleft, before, hline⟩
    exact ⟨before, ⟨hplen, hflen, hcsum, hcount⟩, hleft, hline⟩
  · rintro ⟨before, ⟨hplen, hflen, hcsum, hcount⟩, hleft, hline⟩
    exact ⟨hplen, hflen, hcsum, hcount, hleft, before, hline⟩

namespace State.SendingAfter

/-- At its acceptance SEND has put nothing on the line (R75). -/
theorem startSend {s : State} (h : s.RequestHeld) : s.startSend.SendingAfter s.env.txSent where
  held := ⟨h.plen, h.flen, h.csum, h.count⟩
  left := by
    rw [startSend_cnt_toNat]
    exact Nat.zero_add _
  line := (List.append_nil _).symm

/-- Only the request registers, TXBUF, the place in the frame and the line are looked at. -/
theorem of_same {before : List Byte} {s t : State} (h : s.SendingAfter before) (htx : t.tx = s.tx) (hmem : t.mem = s.mem)
    (hbase : t.free.txBase = s.free.txBase) (heng : t.eng = s.eng) (hsent : t.env.txSent = s.env.txSent) :
    t.SendingAfter before := by
  obtain ⟨⟨hplen, hflen, hcsum, hcount⟩, hleft, hline⟩ := h
  have hpayload : t.txPayload = s.txPayload := txPayload_congr hmem hbase (by rw [htx])
  constructor
  · constructor <;> simpa only [htx, hpayload]
  · rwa [heng, htx]
  · rwa [hsent, htx, hpayload, heng]

/-- A byte accepted is the next one of the frame (R75). -/
theorem txTransfer {before : List Byte} {s : State} (h : s.SendingAfter before) (hc : s.eng.cnt ≠ 0) :
    (txTransfer s).SendingAfter before := by
  have hleft := h.left
  have hplen := h.held.plen
  have hcnt : 0 < s.eng.cnt.toNat := by bv_omega
  have htxi : (s.eng.txi + 1).toNat = s.eng.txi.toNat + 1 := by bv_omega
  refine ⟨⟨hplen, h.held.flen, h.held.csum, h.held.count⟩, ?_, ?_⟩
  · change (s.eng.txi + 1).toNat + (s.eng.cnt - 1).toNat = s.tx.plen.toNat + 3
    bv_omega
  · change s.env.txSent ++ [s.txData] = before ++ (requestFrame s.tx.sid s.txPayload).take (s.eng.txi + 1).toNat
    rw [htxi, List.take_add_one, h.held.requestFrame_getElem? (by omega), h.line, List.append_assoc]
    rfl

/-- With no byte left the whole frame is on the line. -/
theorem txSent_of_cnt_eq_zero {before : List Byte} {s : State} (h : s.SendingAfter before) (hc : s.eng.cnt = 0) :
    s.env.txSent = before ++ requestFrame s.tx.sid s.txPayload := by
  have hleft := h.left
  rw [hc] at hleft
  rw [h.line, List.take_of_length_le]
  rw [requestFrame_length, txPayload_length]
  exact hleft.ge

end State.SendingAfter

/-! ## The invariant -/

theorem OperandWrite.eng {s t : State} (w : OperandWrite s t) : t.eng = s.eng := by cases w <;> rfl

namespace State.sendOk

theorem of_not_tx {s : State} (h : s.eng.seq ≠ .tx) : s.sendOk := fun hs => absurd hs h

/-- Of the acceptances only SEND's leads into its phase. -/
theorem accepted {s t : State} (hs : s.eng.seq = .idle) (a : Accepted s t) : t.sendOk := by
  cases a with
  | send hp => exact sendOk_iff.2 fun _ => ⟨_, .startSend (.putRequest (s := s.beginCommand) hp)⟩
  | _ => exact of_not_tx (by simp [enterLen, hs])

/-- The busy lock keeps the registers and TXBUF of a SEND as they are (R96). -/
theorem written {s t : State} (h : s.sendOk) (w : Written s t) : t.sendOk := by
  cases w with
  | operand hs w => exact of_not_tx (by simp [w.eng, hs])
  | accepted hs a => exact accepted hs a
  | ctrl v =>
    unfold writeCtrl
    split
    · exact of_not_tx nofun
    · exact h
  | _ => exact h

theorem edge {s t : State} (h : s.sendOk) (e : Edge s t) : t.sendOk := by
  cases e with
  | sent _ hs hc =>
    obtain ⟨before, hsending⟩ := sendOk_iff.1 h hs
    have hdrawn : s.freshDraw.SendingAfter before := hsending.of_same rfl rfl rfl rfl rfl
    exact sendOk_iff.2 fun _ => ⟨before, hdrawn.txTransfer hc⟩
  | received b rest _ hr _ _ =>
    have hreading := (rxTransfer_taken (b := b) (s := { s with env.rxStream := rest }) hr).reading
    exact of_not_tx fun hs => by simp [hs, Seq.reading] at hreading
  | nothing => exact h
  | leaves _ => exact h
  | _ => exact of_not_tx nofun

theorem effect {s t : State} (h : s.sendOk) (e : Effect s t) : t.sendOk := by
  cases e with
  | written _ w => exact written (s := s.leaveReset) h w
  | edge e => exact h.edge e
  | pin level =>
    cases level with
    | false => exact of_not_tx nofun
    | true => exact h
  | _ => exact h

end State.sendOk

/-- Settles O54: the pending events are no part of the invariant, and each effect of an event keeps it. -/
theorem stepKeepsSentFrame : Obligations.StepKeepsSentFrame :=
  fun _ _ => step_keeps (fun _ _ h => h) fun _ _ h => h.effect

end Sys2Proof.Machine

/-! PROOFS. A whole SEND, from its `CMD` write over any clock edges (R49, R65, R75, R76, R95). -/

namespace Sys2Proof.Machine

/-! ## Runs -/

theorem run_succ {M : Host.Core} {s t : M.State} (h : M.step s = .next t) (k : Nat) : M.run (k + 1) s = M.run k t := by
  rw [Host.Core.run, h]

theorem run_add {M : Host.Core} {s t : M.State} {j : Nat} (h : M.run j s = .next t) (k : Nat) :
    M.run (j + k) s = M.run k t := by
  induction j generalizing s with
  | zero =>
    cases h
    rw [Nat.zero_add]
  | succ j ih =>
    cases hstep : M.step s with
    | next u =>
      rw [run_succ hstep] at h
      rw [Nat.succ_add, run_succ hstep]
      exact ih h
    | fault r => simp [Host.Core.run, hstep] at h
    | refused r => simp [Host.Core.run, hstep] at h

theorem writeWord_cmd (w : Word) (s : State) : writeWord cmdOffset w s = writeCmd w s := rfl

/-- A `CMD` write submits the command of its word, out of reset (R56, log entry 11). -/
theorem step_submission {s : State} {w : Word} {i : Instr} {rest : List Event}
    (hp : s.env.pending = submission w :: rest) (hn : s.env.rstN = true) (hw : decode w = .ok i) :
    step s = exec i (s.afterEvent rest).leaveReset := by
  rw [step_cons hp, submission, handle, hostAccess_aligned (s := s.afterEvent rest) hn rfl, writeWord_cmd, writeCmd_ok hw]

/-! ## The course of a SEND -/

/-- All that a running SEND may change: `DONE`, the hidden values, the draw of what is read of RXBUF while busy, the events
to come and the line. -/
inductive SendMoves (s : State) : State → Prop
  | mk (done : Bool) (e : Engine) (next : Nat) (pending : List Event) (sent : List Byte) :
      SendMoves s { s with
        stat.done := done
        eng := e
        free.next := next
        env.pending := pending
        env.txSent := sent }

namespace SendMoves

theorem afterEvent {s t : State} (h : SendMoves s t) (rest : List Event) : SendMoves s (t.afterEvent rest) := by
  cases h with | mk done e next _ sent => exact .mk done e next rest sent

theorem txTransfer {s t : State} (h : SendMoves s t) : SendMoves s (txTransfer t.freshDraw) := by
  cases h with | mk done => exact .mk done _ _ _ _

theorem complete {s t : State} (h : SendMoves s t) : SendMoves s t.complete := by
  cases h with | mk => exact .mk true _ _ _ _

theorem inReset {s t : State} (h : SendMoves s t) : t.inReset = s.inReset := by cases h; rfl

theorem env {s t : State} (h : SendMoves s t) :
    t.env = { s.env with pending := t.env.pending, txSent := t.env.txSent } := by cases h; rfl

theorem stat {s t : State} (h : SendMoves s t) : t.stat = { s.stat with done := t.stat.done } := by cases h; rfl

theorem requestFrame {s t : State} (h : SendMoves s t) :
    requestFrame t.tx.sid t.txPayload = requestFrame s.tx.sid s.txPayload := by cases h; rfl

end SendMoves

/-- How far the SEND accepted in `s` has come: it is putting its frame on the line, or has completed. -/
inductive SendProgress (s t : State) : Prop
  | sending (hm : SendMoves s t) (hs : t.eng.seq = .tx) (hline : t.SendingAfter s.env.txSent)
  | completed (hm : SendMoves s t) (hs : t.eng.seq = .idle) (hdone : t.stat.done = true)
      (hline : t.env.txSent = s.env.txSent ++ requestFrame s.tx.sid s.txPayload)

namespace SendProgress

/-- A clock edge completes the SEND, puts one more byte on the line, or leaves all as it is; a SEND that still runs after it had
bytes left, one more if the edge took one. -/
theorem step {s t : State} (h : SendProgress s t) (hr : s.inReset = false) {rxValid txReady : Bool} {rest : List Event}
    (hp : t.env.pending = .clkEdge rxValid txReady :: rest) :
    ∃ u, Machine.step t = .next u ∧ SendProgress s u ∧ u.env.pending = rest ∧
      (u.eng.seq = .tx → t.eng.seq = .tx ∧ t.eng.cnt ≠ 0 ∧ u.eng.cnt.toNat + txReady.toNat ≤ t.eng.cnt.toNat) := by
  cases h with
  | sending hm hs hline =>
    have hrt : t.inReset = false := hm.inReset.trans hr
    have hmoved := hm.afterEvent rest
    have hwaiting : (t.afterEvent rest).SendingAfter s.env.txSent := hline.of_same rfl rfl rfl rfl rfl
    by_cases hc : t.eng.cnt = 0
    · have hstep := step_completes hp hrt (.inl hs) hc
      rw [completion_tx (s := t.afterEvent rest) hs] at hstep
      have hsent := hline.txSent_of_cnt_eq_zero hc
      rw [hm.requestFrame] at hsent
      exact ⟨_, hstep, .completed hmoved.complete rfl rfl hsent, rfl, nofun⟩
    · cases txReady with
      | false =>
        have hstep := step_stalled hp (held_of_not_inReset hrt) (transfersDone_eq_false hc) (fun _ => rfl)
          (fun hreading => by simp [hs, Seq.reading] at hreading)
        exact ⟨_, hstep, .sending hmoved hs hwaiting, rfl, fun _ => ⟨hs, hc, le_rfl⟩⟩
      | true =>
        have hstep := step_clkEdge hp
        rw [clockEdge_transfers (s := t.afterEvent rest) hrt (transfersDone_eq_false hc),
          if_pos (show (t.afterEvent rest).eng.seq = .tx from hs), if_pos rfl] at hstep
        have hdrawn : (t.afterEvent rest).freshDraw.SendingAfter s.env.txSent := hwaiting.of_same rfl rfl rfl rfl rfl
        have hcnt : (t.eng.cnt - 1).toNat + 1 ≤ t.eng.cnt.toNat := by bv_omega
        exact ⟨_, hstep, .sending hmoved.txTransfer hs (hdrawn.txTransfer hc), rfl, fun _ => ⟨hs, hc, hcnt⟩⟩
  | completed hm hs hdone hline =>
    have hrt : t.inReset = false := hm.inReset.trans hr
    have hstep := step_stalled hp (held_of_not_inReset hrt) (transfersDone_idle hs) (by simp [hs])
      (by simp [hs, Seq.reading])
    exact ⟨_, hstep, .completed (hm.afterEvent rest) hs hdone hline, rfl, fun htx => nomatch hs.symm.trans htx⟩

/-- Over a list of clock edges, a SEND that still runs has a byte fewer left for each edge at which TxSink accepts. -/
theorem run {s t : State} (h : SendProgress s t) (hr : s.inReset = false) {es : List (Bool × Bool)} {rest : List Event}
    (hp : t.env.pending = clockEdges es ++ rest) :
    ∃ u, Host.Core.run core es.length t = .next u ∧ SendProgress s u ∧ u.env.pending = rest ∧
      (u.eng.seq = .tx → t.eng.seq = .tx ∧ u.eng.cnt.toNat + takenUp es ≤ t.eng.cnt.toNat) := by
  induction es generalizing t with
  | nil => exact ⟨t, rfl, h, hp, fun hs => ⟨hs, le_rfl⟩⟩
  | cons e es ih =>
    obtain ⟨v, hstep, hv, hvp, hvleft⟩ := h.step hr hp
    obtain ⟨u, hrun, hu, hup, huleft⟩ := ih hv hvp
    refine ⟨u, (run_succ hstep _).trans hrun, hu, hup, fun hs => ?_⟩
    obtain ⟨hvs, hucnt⟩ := huleft hs
    obtain ⟨hts, -, hvcnt⟩ := hvleft hvs
    have htaken : takenUp (e :: es) = takenUp es + e.2.toNat := by
      rw [takenUp, List.countP_cons]
      cases e.2 <;> rfl
    exact ⟨hts, by omega⟩

/-- With no byte left the whole frame is on the line, completed or not. -/
theorem txSent {s t : State} (h : SendProgress s t) (hleft : t.eng.seq = .tx → t.eng.cnt = 0) :
    t.env.txSent = s.env.txSent ++ requestFrame s.tx.sid s.txPayload := by
  cases h with
  | sending hm hs hline =>
    rw [← hm.requestFrame]
    exact hline.txSent_of_cnt_eq_zero (hleft hs)
  | completed _ _ _ hline => exact hline

end SendProgress

/-- The state in which SEND has been accepted from its `CMD` write (R75, R92). -/
def State.sendAccepted (s : State) : State := s.leaveReset.beginCommand.putRequest.startSend

theorem sendAccepted_sending {s : State} (hp : s.tx.plen.toNat ≤ 254) : s.sendAccepted.SendingAfter s.env.txSent :=
  .startSend (.putRequest (s := s.leaveReset.beginCommand) hp)

theorem sendAccepted_inReset {s : State} (hn : s.env.rstN = true) : s.sendAccepted.inReset = false :=
  inReset_eq_false.2 ⟨hn, rfl⟩

/-- After its `CMD` write and clock edges at which TxSink accepts the whole frame, a SEND has no byte left. -/
theorem run_send {s : State} {es : List (Bool × Bool)} {rest : List Event} (hs : s.eng.seq = .idle)
    (hn : s.env.rstN = true) (hplen : s.tx.plen.toNat ≤ 254)
    (hp : s.env.pending = submission 0x00000002 :: (clockEdges es ++ rest)) (htaken : s.tx.plen.toNat + 3 ≤ takenUp es) :
    ∃ t, Host.Core.run core (1 + es.length) s = .next t ∧
      SendProgress (s.afterEvent (clockEdges es ++ rest)).sendAccepted t ∧ t.env.pending = rest ∧
      (t.eng.seq = .tx → t.eng.cnt = 0) := by
  have hstep : step s = .next (s.afterEvent (clockEdges es ++ rest)).sendAccepted := by
    rw [step_submission hp hn (decodeEncodeRoundTrip .send rfl)]
    exact exec_send_ok (s := (s.afterEvent (clockEdges es ++ rest)).leaveReset) hs hplen
  have hbegun : SendProgress (s.afterEvent (clockEdges es ++ rest)).sendAccepted
      (s.afterEvent (clockEdges es ++ rest)).sendAccepted :=
    .sending (.mk _ _ _ _ _) rfl (sendAccepted_sending (s := s.afterEvent _) hplen)
  obtain ⟨t, hrun, ht, htp, hleft⟩ := hbegun.run (sendAccepted_inReset (s := s.afterEvent _) hn) rfl
  refine ⟨t, ?_, ht, htp, fun htx => ?_⟩
  · rw [Nat.add_comm]
    exact (run_succ (M := core) hstep _).trans hrun
  · obtain ⟨-, hcnt⟩ := hleft htx
    have hall : (s.afterEvent (clockEdges es ++ rest)).sendAccepted.eng.cnt.toNat = s.tx.plen.toNat + 3 :=
      startSend_cnt_toNat _
    have hzero : t.eng.cnt.toNat = 0 := by omega
    exact BitVec.eq_of_toNat_eq hzero

/-- Settles O17: the edges that take up the frame leave no byte, and the last edge completes what has not completed. -/
theorem sendTransmitsRequestFrame : Obligations.SendTransmitsRequestFrame := by
  intro s es last rest hs hn hplen hp htaken
  have hsplit : s.env.pending = submission 0x00000002 :: (clockEdges es ++ .clkEdge last.1 last.2 :: rest) := by
    simp [hp, clockEdges]
  obtain ⟨t, hrun, ht, htp, hleft⟩ := run_send hs hn hplen hsplit htaken
  obtain ⟨u, hstep, hu, hup, hubusy⟩ := ht.step (sendAccepted_inReset (s := s.afterEvent _) hn) htp
  have hrunall : Host.Core.run core (2 + es.length) s = .next u := by
    rw [show 2 + es.length = 1 + es.length + 1 by omega]
    exact (run_add hrun 1).trans (run_succ (M := core) hstep 0)
  have hlength : (requestFrame s.tx.sid s.txPayload).length = s.tx.plen.toNat + 3 := by
    rw [requestFrame_length, txPayload_length]
  have held := (sendAccepted_sending hplen).held
  cases hu with
  | sending _ hus _ =>
    obtain ⟨hts, hcnt, -⟩ := hubusy hus
    exact absurd (hleft hts) hcnt
  | completed hm hus hdone hline =>
    have henv := hm.env
    have hstat := hm.stat
    rw [hup, hline] at henv
    rw [hdone] at hstat
    cases hm
    exact ⟨_, hrunall, henv, hlength, hus, hstat, held.flen, held.csum, held.count, rfl, rfl, rfl, rfl, rfl, rfl, rfl, rfl,
      sameBuffers_of_mem rfl rfl rfl⟩

/-! ## Reading the frame back (R76) -/

theorem readRequest_requestFrame (sid : Byte) {p : List Byte} (h : p.length ≤ 254) :
    readRequest (requestFrame sid p) = some (sid, p, reqChecksum sid p) := by
  simp [readRequest, requestFrame, lengthByte_toNat h]

/-- Settles O18: once its bytes are taken up the line carries the frame, which reads back. -/
theorem sentFrameRecoversService : Obligations.SentFrameRecoversService := by
  rintro s sid p es rest hs hn hlen rfl hplen rfl hp htaken
  obtain ⟨t, hrun, ht, -, hleft⟩ := run_send hs hn (hplen.trans_le hlen) hp (hplen ▸ htaken)
  have hlength := (lengthByte_toNat hlen).trans (Nat.add_comm ..)
  exact ⟨t, requestFrame s.tx.sid s.txPayload, hrun, ht.txSent hleft, ⟨_, _, rfl, hlength⟩,
    readRequest_requestFrame _ hlen⟩

end Sys2Proof.Machine

/-! PROOFS. READ_RESP at acceptance (R77): the capacity check, and the first byte it waits for. -/

namespace Sys2Proof.Machine

/-- The phase in which READ_RESP awaits its first byte, and the bytes left of it (R77, R78). -/
theorem enterEcho_eq (s : State) :
    enterEcho s = s.enter (if s.rx.echoLen = 0 then .rxLen else .rxEcho) (if s.rx.echoLen = 0 then 1 else s.rx.echoLen) := by
  unfold enterEcho enterLen
  split <;> rfl

theorem acceptReadResp_ok {s : State} (h : s.rx.cap.toNat ≤ 80) : acceptReadResp s = enterEcho s.startRead :=
  if_neg (Nat.not_lt.2 h)

theorem acceptReadResp_refused {s : State} (h : 80 < s.rx.cap.toNat) : acceptReadResp s = s.refuse .capRange := if_pos h

theorem exec_readResp_ok {s : State} (hs : s.eng.seq = .idle) (hc : s.rx.cap.toNat ≤ 80) :
    exec .readResp s = .next (enterEcho s.beginCommand.startRead) := by
  rw [exec_idle _ hs, acceptance, acceptReadResp_ok (s := s.beginCommand) hc]

theorem enterEcho_seq (s : State) : (enterEcho s).eng.seq = .rxEcho ∨ (enterEcho s).eng.seq = .rxLen := by
  rw [enterEcho_eq, State.enter_eng_seq]
  split
  · exact .inr rfl
  · exact .inl rfl

/-- While it awaits its first byte READ_RESP is ready for it. -/
theorem enterEcho_rxReady {s : State} (hr : s.inReset = false) :
    (enterEcho s).rxReady = true ∧ (enterEcho s).txValid = false := by
  have hr : (enterEcho s).inReset = false := by
    rw [enterEcho_eq]
    exact hr
  unfold State.rxReady State.txValid State.transfersDone
  rw [hr]
  rcases enterEcho_seq s with hs | hs <;> simp [hs, Seq.reading, Seq.completes]

/-- Settles O19: the next state is `startRead` and the first phase, written out. -/
theorem readRespStartsReading : Obligations.ReadRespStartsReading := by
  intro s hs hc
  have hexec := exec_readResp_ok hs hc
  have hbusy : (enterEcho s.beginCommand.startRead).busy = true := by
    rcases enterEcho_seq s.beginCommand.startRead with hq | hq <;> simp [hq]
  have hports : s.inReset = false → _ := enterEcho_rxReady (s := s.beginCommand.startRead)
  rw [enterEcho_eq] at hexec hbusy hports
  exact ⟨_, hexec, hbusy, rfl, fun hne => if_neg hne, rfl, rfl, rfl, rfl, rfl, rfl, rfl, rfl, rfl, rfl, hports, rfl, rfl, rfl,
    rfl, rfl, rfl, rfl, rfl, sameBuffers_of_mem rfl rfl rfl⟩

/-- Settles O20. -/
theorem readRespRefusesCapacityAbove80 : Obligations.ReadRespRefusesCapacityAbove80 := by
  intro s hs hc
  rw [exec_idle _ hs, acceptance, acceptReadResp_refused (s := s.beginCommand) hc, beginCommand_refuse]

end Sys2Proof.Machine

/-! PROOFS. READ_RESP keeps its place in the frame, its sum and what it has stored, whatever the Host does meanwhile (R52,
R77 to R84). -/

namespace Sys2Proof.Machine

/-! ## The checksum of a response (R83) -/

theorem responseChecksum_nil (len st : Byte) : responseChecksum len st [] = len + st := by
  simp [responseChecksum, BitVec.ofNat_add]

theorem responseChecksum_concat (len st : Byte) (p : List Byte) (b : Byte) :
    responseChecksum len st (p ++ [b]) = responseChecksum len st p + b := by
  simp [responseChecksum, BitVec.ofNat_add, BitVec.add_assoc]

/-! ## A payload byte -/

theorem rxStored_congr {s t : State} {n : Nat} (h : ∀ i < n, t.rxCell i = s.rxCell i) : t.rxStored n = s.rxStored n :=
  List.map_congr_left fun i hi => h i (List.mem_range.1 hi)

theorem rxStored_succ (s : State) (n : Nat) : s.rxStored (n + 1) = s.rxStored n ++ [s.rxCell n] := by
  simp [State.rxStored, List.range_succ]

/-- A byte of RXBUF written, the bytes written before stay so. -/
theorem rxWritten_putRx {s : State} {n : Nat} (b : Byte) (hn : n < Config.respCap) (h : s.rxWritten n) :
    (s.putRx n b).rxWritten (n + 1) := by
  intro i hi
  rw [State.putRx_mem s n b hn]
  by_cases hin : i = n
  · subst hin
    rw [Memory.get?_put_same]
    rfl
  · rw [Memory.get?_put_other _ _ (by omega)]
    exact h i (by omega)

/-- A payload byte of a negative response is summed and no more (R81). -/
theorem PayByte.eq_accumulate {b : Byte} {s u : State} (h : PayByte b s u) (hst : s.eng.latSt = Config.negCode) :
    u = s.accumulate b := by
  cases h with
  | negative _ => rfl
  | drained hne _ => exact absurd hst hne
  | stored hne _ => exact absurd hst hne

/-- After the status byte no payload byte is read yet (R80, R82). -/
theorem afterStat_payloadRead (b : Byte) {s : State} (hstored : s.eng.stored = 0) (hdrain : s.eng.drain = false)
    (hacc : s.eng.acc = s.eng.latL) : (afterStat b s).payloadRead 0 := by
  refine ⟨?_, ?_, ?_, fun _ => ?_⟩
  · simp [afterStat, hstored]
  · simp [afterStat, hdrain]
  · simp [State.rxWritten, afterStat, hstored]
  · simp [afterStat, State.rxStored, responseChecksum_nil, hacc]

/-- With `n` payload bytes of a positive response read, the next one goes to RXBUF while `CAP` is not reached (R82). -/
theorem PayByte.rxCell {b : Byte} {s u : State} (h : PayByte b s u) (hst : s.eng.latSt ≠ Config.negCode)
    (hcap : s.rx.cap.toNat ≤ 80) {n : Nat} (hn : s.payloadRead n) (i : Nat) :
    u.rxCell i = if i = n ∧ n < s.rx.cap.toNat then b else s.rxCell i := by
  obtain ⟨hstored, -, -, -⟩ := hn
  cases h with
  | negative hneg => exact absurd hneg hst
  | drained _ hfull => exact (if_neg (by omega)).symm
  | stored _ hroom =>
    have hplace : s.eng.stored.toNat = n := by omega
    rw [hplace]
    change ((s.accumulate b).putRx n b).rxCell i = _
    split_ifs with hi
    · obtain ⟨rfl, hlt⟩ := hi
      exact rxCell_putRx_same _ b (hlt.trans_le hcap)
    · exact rxCell_putRx_other (s.accumulate b) b (by omega)

/-- A payload byte of a positive response is stored or drained, and summed (R82). -/
theorem PayByte.payloadRead {b : Byte} {s u : State} (h : PayByte b s u) (hst : s.eng.latSt ≠ Config.negCode)
    (hcap : s.rx.cap.toNat ≤ 80) {n : Nat} (hn : s.payloadRead n) : u.payloadRead (n + 1) := by
  have hcell := h.rxCell hst hcap hn
  obtain ⟨hstored, hdrain, hwritten, hacc⟩ := hn
  cases h with
  | negative hneg => exact absurd hneg hst
  | drained _ hfull =>
    refine ⟨?_, ?_, hwritten, fun hle => ?_⟩
    · change s.eng.stored.toNat = min (n + 1) s.rx.cap.toNat
      omega
    · simp
      omega
    · simp at hle
      omega
  | stored _ hroom =>
    have hplace : s.eng.stored.toNat = n := by omega
    have hnext : (s.eng.stored + 1).toNat = n + 1 := by bv_omega
    refine ⟨?_, ?_, ?_, fun _ => ?_⟩
    · simp
      omega
    · simp [hdrain]
      omega
    · rw [hplace] at hwritten
      simp only [State.countStored_eng_stored, State.putRx_eng, State.accumulate_eng_stored, hnext, hplace]
      exact rxWritten_putRx (s := s.accumulate b) b (by unfold Config.respCap; omega) hwritten
    · rw [rxStored_succ, hcell n, if_pos ⟨rfl, by omega⟩, rxStored_congr fun i hi => (hcell i).trans (if_neg (by omega)),
        responseChecksum_concat]
      simp [hacc (by omega)]

/-- No word of TXBUF lies in RXBUF (R43). -/
theorem get?_putTxWord_rxbuf {j : Nat} (v : Word) (s : State) (hj : j < 64) (i : Nat) :
    (putTxWord j v s).mem.get? (rxbufBase + i) = s.mem.get? (rxbufBase + i) := by
  have hne : ∀ k < 256, rxbufBase + i ≠ txbufBase + k := by
    unfold rxbufBase txbufBase
    omega
  simp only [putTxWord, State.putTx_mem]
  rw [Memory.get?_put_other _ _ (hne _ (by omega)), Memory.get?_put_other _ _ (hne _ (by omega)),
    Memory.get?_put_other _ _ (hne _ (by omega)), Memory.get?_put_other _ _ (hne _ (by omega))]

theorem rxCell_putTxWord {j : Nat} (v : Word) (s : State) (hj : j < 64) (i : Nat) :
    (putTxWord j v s).rxCell i = s.rxCell i := by
  unfold State.rxCell
  rw [get?_putTxWord_rxbuf v s hj]
  rfl

/-! ## The place in the frame, phase by phase -/

/-- The result of a read fits what RXBUF holds (R83, R84, R94). -/
def State.ResultOk (s : State) : Prop :=
  s.stat.outcome = .ok ∨ s.stat.outcome = .csumMismatch →
    s.rx.plen.toNat = payloadCount s.rx.len ∧ s.rx.status ≠ 0x7F ∧ s.rxWritten s.rx.plen.toNat ∧
      s.rx.csumCalc = responseChecksum s.rx.len s.rx.status (s.rxStored s.rx.plen.toNat) ∧
      (s.stat.outcome = .ok ↔ s.rx.csumRcvd = s.rx.csumCalc)

/-- What `ReadOk` says in each phase. -/
def State.PlaceOk (s : State) : Seq → Prop
  | .idle => s.ResultOk
  | .tx => s.ResultOk
  | .rxEcho => s.eng.acc = 0 ∧ s.eng.stored = 0 ∧ s.eng.drain = false ∧ 1 ≤ s.eng.cnt.toNat ∧
      s.eng.cnt.toNat ≤ s.rx.echoLen.toNat
  | .rxLen => s.eng.acc = 0 ∧ s.eng.stored = 0 ∧ s.eng.drain = false
  | .rxStat => s.eng.stored = 0 ∧ s.eng.drain = false ∧ (s.eng.cnt ≠ 0 → s.eng.acc = s.eng.latL) ∧
      (s.eng.cnt = 0 → s.eng.negDrainL = false ∧ s.eng.acc = s.eng.latL + 0x7F)
  | .rxPay => 1 ≤ s.eng.cnt.toNat ∧ s.eng.cnt.toNat ≤ payloadCount s.eng.latL ∧ (s.eng.latSt = 0x7F → s.draining) ∧
      (s.eng.latSt ≠ 0x7F → s.payloadRead (payloadCount s.eng.latL - s.eng.cnt.toNat))
  | .rxCsum => (s.eng.latSt = 0x7F → s.draining) ∧ (s.eng.latSt ≠ 0x7F → s.payloadRead (payloadCount s.eng.latL))

/-- The payload count fits the counter. -/
theorem payloadCount_ofNat_toNat (len : Byte) : (BitVec.ofNat 16 (payloadCount len)).toNat = payloadCount len := by
  rw [BitVec.toNat_ofNat, payloadCount]
  split <;> omega

/-- Ok and ChecksumMismatch are the outcomes of a positive response that fits RXBUF, and they differ in the sum (R83). -/
theorem csumOutcome_kept {s : State} {r : Byte} (h : s.csumOutcome r = .ok ∨ s.csumOutcome r = .csumMismatch) :
    s.eng.latSt ≠ Config.negCode ∧ s.eng.drain = false ∧ (s.csumOutcome r = .ok ↔ r = s.eng.acc) := by
  unfold State.csumOutcome at h ⊢
  split_ifs at h ⊢ with hst hdrain hr <;> simp_all

namespace State.ReadOk

/-- In a given phase `ReadOk` says no more than is said of that phase. -/
theorem of_phase {s : State} {phase : Seq} (hs : s.eng.seq = phase) (h : s.PlaceOk phase) : s.ReadOk := by
  subst hs
  constructor
  case result =>
    intro hr
    cases hs : s.eng.seq with
    | idle => rwa [hs] at h
    | tx => rwa [hs] at h
    | _ => simp [hs, Seq.reading] at hr
  all_goals
    intro hs
    rwa [hs] at h

theorem resultOk {s : State} (h : s.ReadOk) (hs : s.eng.seq = .idle) : s.ResultOk := h.result (by rw [hs]; rfl)

theorem of_atReset {s : State} (h : s.atReset) : s.ReadOk := by
  obtain ⟨-, hstat, -, -, -, -, -, -, heng⟩ := h
  refine of_phase (phase := .idle) (by rw [heng]; rfl) fun ho => ?_
  simp [hstat, State.reset] at ho

/-! ## Host accesses -/

/-- A word of TXBUF written changes nothing of RXBUF. -/
theorem putTxWord {s : State} (h : s.ReadOk) (hs : s.eng.seq = .idle) {j : Nat} (v : Word) (hj : j < 64) :
    (putTxWord j v s).ReadOk := by
  refine of_phase hs fun ho => ?_
  obtain ⟨hplen, hstatus, hwritten, hcalc, hok⟩ := h.resultOk hs ho
  refine ⟨hplen, hstatus, fun i hi => ?_, ?_, hok⟩
  · rw [get?_putTxWord_rxbuf v s hj]
    exact hwritten i hi
  · rw [rxStored_congr fun i _ => rxCell_putTxWord v s hj i]
    exact hcalc

theorem operandWrite {s t : State} (h : s.ReadOk) (hs : s.eng.seq = .idle) (w : OperandWrite s t) : t.ReadOk := by
  cases w with
  | txbuf j v hj => exact h.putTxWord hs v hj
  | _ => exact of_phase hs (h.resultOk hs)

/-- An acceptance keeps the result of the read before it, unless it starts a read (R77). -/
theorem accepted {s t : State} (h : s.ReadOk) (hs : s.eng.seq = .idle) (a : Accepted s t) : t.ReadOk := by
  have hresult := h.resultOk hs
  cases a with
  | readEcho _ hecho =>
    have hone : 1 ≤ s.rx.echoLen.toNat := by bv_omega
    exact of_phase rfl ⟨rfl, rfl, rfl, hone, le_rfl⟩
  | readLen _ _ => exact of_phase rfl ⟨rfl, rfl, rfl⟩
  | refused _ _ => exact of_phase hs hresult
  | _ => exact of_phase rfl hresult

theorem written {s t : State} (h : s.ReadOk) (w : Written s t) : t.ReadOk := by
  cases w with
  | operand hs w => exact h.operandWrite hs w
  | accepted hs a => exact h.accepted hs a
  | ctrl v =>
    unfold writeCtrl
    split
    · exact of_atReset (resetAll_atReset s)
    · exact { h with }
  | _ => exact { h with }

/-! ## Received bytes -/

/-- Before the status byte the sum is the length byte (R79). -/
theorem acc_eq_latL {s : State} (h : s.ReadOk) (hs : s.eng.seq = .rxStat) (hd : s.transfersDone = false) :
    s.eng.acc = s.eng.latL := by
  obtain ⟨-, -, hacc, -⟩ := h.stat hs
  exact hacc fun hc => by simp [transfersDone_eq_true.2 ⟨.inr (.inl hs), hc⟩] at hd

/-- After the status byte a response is drained, or none of its payload bytes is read yet (R81, R82). -/
theorem afterStat {b : Byte} {s : State} (h : s.ReadOk) (hs : s.eng.seq = .rxStat) (hd : s.transfersDone = false)
    (hb : b = Config.negCode → s.eng.negDrainL = true) :
    (b = 0x7F → (afterStat b s).draining) ∧ (b ≠ 0x7F → (afterStat b s).payloadRead 0) := by
  obtain ⟨hstored, hdrain, -, -⟩ := h.stat hs
  exact ⟨fun hneg => ⟨hb hneg, hstored⟩, fun _ => afterStat_payloadRead b hstored hdrain (h.acc_eq_latL hs hd)⟩

/-- A payload byte is one more of those read (R81, R82). -/
theorem payByte {b : Byte} {s u : State} (h : s.ReadOk) (hs : s.eng.seq = .rxPay) (hcap : s.rx.cap.toNat ≤ 80)
    (hu : PayByte b s u) :
    (u.eng.latSt = 0x7F → u.draining) ∧
      (u.eng.latSt ≠ 0x7F → u.payloadRead (payloadCount s.eng.latL - s.eng.cnt.toNat + 1)) := by
  obtain ⟨-, -, hneg, hpos⟩ := h.pay hs
  obtain ⟨-, -, -, -, -, -, hst⟩ := hu.engine
  rw [hst]
  refine ⟨fun hq => ?_, fun hq => hu.payloadRead hq hcap (hpos hq)⟩
  rw [hu.eq_accumulate hq]
  exact hneg hq

/-- After the last payload byte all of them are read (R82, R83). -/
theorem payLast {b : Byte} {s u : State} (h : s.ReadOk) (hs : s.eng.seq = .rxPay) (hcap : s.rx.cap.toNat ≤ 80)
    (hu : PayByte b s u) (hc : s.eng.cnt.toNat ≤ 1) : (enterCsum u).ReadOk := by
  obtain ⟨hone, hle, -, -⟩ := h.pay hs
  obtain ⟨hneg, hpos⟩ := h.payByte hs hcap hu
  obtain ⟨-, -, -, -, -, hlen, -⟩ := hu.engine
  have hread : payloadCount s.eng.latL - s.eng.cnt.toNat + 1 = payloadCount u.eng.latL := by
    rw [hlen]
    omega
  rw [hread] at hpos
  exact of_phase rfl ⟨hneg, hpos⟩

/-- After any other payload byte one fewer is left (R82). -/
theorem payMore {b : Byte} {s u : State} (h : s.ReadOk) (hs : s.eng.seq = .rxPay) (hcap : s.rx.cap.toNat ≤ 80)
    (hu : PayByte b s u) (hc : 1 < s.eng.cnt.toNat) : u.countDown.ReadOk := by
  obtain ⟨-, hle, -, -⟩ := h.pay hs
  obtain ⟨hneg, hpos⟩ := h.payByte hs hcap hu
  obtain ⟨-, hseq, -, hcnt, -, hlen, -⟩ := hu.engine
  have hleft : u.countDown.eng.cnt.toNat = s.eng.cnt.toNat - 1 := by
    rw [State.countDown_eng_cnt, hcnt]
    bv_omega
  have hcount : payloadCount u.countDown.eng.latL = payloadCount s.eng.latL := congrArg payloadCount hlen
  have hread : payloadCount s.eng.latL - s.eng.cnt.toNat + 1 =
      payloadCount u.countDown.eng.latL - u.countDown.eng.cnt.toNat := by omega
  rw [hread] at hpos
  exact of_phase (hseq.trans hs) ⟨by omega, by omega, hneg, hpos⟩

/-- Each byte received leads to its place: the next of the phase, or the start of the phase after it. -/
theorem taken {b : Byte} {s t : State} (h : s.ReadOk) (hcap : s.rx.cap.toNat ≤ 80) (hd : s.transfersDone = false)
    (ht : Taken b s t) : t.ReadOk := by
  cases ht with
  | echoLast hs _ =>
    obtain ⟨hacc, hstored, hdrain, -, -⟩ := h.echo hs
    exact of_phase rfl ⟨hacc, hstored, hdrain⟩
  | echoMore hs hc =>
    obtain ⟨hacc, hstored, hdrain, -, hle⟩ := h.echo hs
    have hcnt : (s.eng.cnt - 1).toNat = s.eng.cnt.toNat - 1 := by bv_omega
    refine of_phase hs ⟨hacc, hstored, hdrain, ?_, ?_⟩ <;> rw [State.countDown_eng_cnt, hcnt]
    · omega
    · exact (Nat.sub_le _ _).trans hle
  | len hs =>
    obtain ⟨hacc, hstored, hdrain⟩ := h.len hs
    exact of_phase rfl ⟨hstored, hdrain, fun _ => by simp [hacc], nofun⟩
  | statNegative hs hb hn =>
    obtain ⟨hstored, hdrain, -, -⟩ := h.stat hs
    refine of_phase hs ⟨hstored, hdrain, fun hc => absurd rfl hc, fun _ => ⟨hn, ?_⟩⟩
    simp [Machine.afterStat, h.acc_eq_latL hs hd, hb, Config.negCode]
  | statNoPayload hs hb hp =>
    obtain ⟨hneg, hpos⟩ := h.afterStat hs hd hb
    rw [← hp] at hpos
    exact of_phase rfl ⟨hneg, hpos⟩
  | statPayload hs hb hp =>
    obtain ⟨hneg, hpos⟩ := h.afterStat hs hd hb
    have hcnt := payloadCount_ofNat_toNat s.eng.latL
    refine of_phase rfl ⟨?_, hcnt.le, hneg, fun hst => ?_⟩
    · rw [State.enter_eng_cnt, hcnt]
      omega
    · rw [State.enter_eng_cnt, hcnt, State.enter_eng_latL, show (Machine.afterStat b s).eng.latL = s.eng.latL from rfl,
        Nat.sub_self]
      exact hpos hst
  | payLast hs hu hc => exact h.payLast hs hcap hu hc
  | payMore hs hu hc => exact h.payMore hs hcap hu hc
  | csum hs => exact of_phase hs (h.csum hs)

/-! ## Completions -/

/-- The completion of a whole frame keeps the response, or leaves an outcome of which nothing is claimed (R83, R84). -/
theorem finishFrame {s : State} (h : s.ReadOk) (hs : s.eng.seq = .rxCsum) : (finishFrame s).ReadOk := by
  refine of_phase rfl fun ho => ?_
  obtain ⟨hst, hdrain, hok⟩ := csumOutcome_kept (s := s) ho
  obtain ⟨hstored, hfull, hwritten, hacc⟩ := (h.csum hs).2 hst
  have hle : payloadCount s.eng.latL ≤ s.rx.cap.toNat := by simpa [hdrain] using hfull
  have hplen : (Machine.finishFrame s).rx.plen.toNat = payloadCount s.eng.latL := by
    simp only [Machine.finishFrame, State.finish_rx_plen, validCount_csumOutcome, hst, hdrain]
    simp
    omega
  rw [hplen]
  have hall : s.eng.stored.toNat = payloadCount s.eng.latL := by omega
  rw [hall] at hwritten
  exact ⟨rfl, hst, hwritten, hacc hle, hok⟩

theorem edge {s t : State} (h : s.ReadOk) (hc : s.ControlOk) (e : Edge s t) : t.ReadOk := by
  cases e with
  | nothing => exact h
  | leaves _ => exact { h with }
  | sent _ hs _ => exact of_phase hs (h.result (by rw [hs]; rfl))
  | received b rest _ hr hd _ =>
    obtain ⟨-, -, -, hcap, -⟩ := hc.reading hr
    have hdrawn : State.ReadOk ({ s with env.rxStream := rest } : State).freshDraw := { h with }
    exact hdrawn.taken hcap hd (rxTransfer_taken hr)
  | completesSend _ hs _ => exact of_phase rfl (h.result (by rw [hs]; rfl))
  | completesShort _ _ _ => exact of_phase rfl fun ho => by simp [finishShort] at ho
  | completesFrame _ hs _ => exact h.finishFrame hs

theorem effect {s t : State} (h : s.ReadOk) (hc : s.ControlOk) (e : Effect s t) : t.ReadOk := by
  cases e with
  | read _ _ => exact { h with }
  | written _ w =>
    have hleft : s.leaveReset.ReadOk := { h with }
    exact hleft.written w
  | arrived _ => exact { h with }
  | edge e => exact h.edge hc e
  | pin level =>
    cases level with
    | false => exact of_atReset (resetAll_atReset s)
    | true => exact { h with }

end State.ReadOk

/-- Settles O55: the control invariant, itself kept by every step, bounds the capacity of a read in progress. -/
theorem stepKeepsReadPlace : Obligations.StepKeepsReadPlace := by
  intro s t hc hr hstep
  have hboth : t.ControlOk ∧ t.ReadOk :=
    step_keeps (P := fun s => s.ControlOk ∧ s.ReadOk)
      (fun _ rest ⟨hc, hr⟩ => ⟨hc.afterEvent rest, { hr with }⟩)
      (fun _ _ ⟨hc, hr⟩ he => ⟨hc.effect he, hr.effect hc he⟩) ⟨hc, hr⟩ hstep
  exact hboth.2

end Sys2Proof.Machine

/-! PROOFS. A whole READ_RESP, from its `CMD` write over any clock edges (R49, R77 to R85). What the Sequencer does with the
bytes of a response is told apart from the edges at which they come. -/

namespace Sys2Proof.Machine

/-! ## The bytes the Sequencer takes -/

/-- The bytes lead the Sequencer from the first state to the second, which awaits each of them before it comes. -/
inductive Receives : State → List Byte → State → Prop
  | nil (s : State) : Receives s [] s
  | cons {s t : State} {b : Byte} {bs : List Byte} (hr : s.eng.seq.reading = true) (hd : s.transfersDone = false)
      (h : Receives (rxTransfer b s) bs t) : Receives s (b :: bs) t

theorem Receives.append {s t u : State} {bs cs : List Byte} (h : Receives s bs t) (h' : Receives t cs u) :
    Receives s (bs ++ cs) u := by
  induction h with
  | nil _ => exact h'
  | cons hr hd _ ih => exact .cons hr hd (ih h')

theorem SameResults.trans {s t u : State} (h : SameResults s t) (h' : SameResults t u) : SameResults s u :=
  ⟨h'.stat.trans h.stat, h'.ctrl.trans h.ctrl, h'.tx.trans h.tx, h'.rx.trans h.rx, h'.dtc.trans h.dtc, h'.view.trans h.view,
    h'.dtcTab.trans h.dtcTab, h'.params.trans h.params⟩

theorem Receives.sameResults {s t : State} {bs : List Byte} (h : Receives s bs t) : SameResults s t := by
  induction h with
  | nil _ => exact ⟨rfl, rfl, rfl, rfl, rfl, rfl, rfl, rfl⟩
  | @cons s _ b _ hr _ _ ih =>
    have hfirst : SameResults s (rxTransfer b s) := { (rxTransfer_taken (b := b) hr).sameResults with }
    exact hfirst.trans ih

theorem Receives.sameTxbuf {s t : State} {bs : List Byte} (h : Receives s bs t) : SameTxbuf s t := by
  induction h with
  | nil _ => exact fun _ _ => rfl
  | @cons s _ b _ hr _ _ ih =>
    have hfirst : SameTxbuf s (rxTransfer b s) := (rxTransfer_taken (b := b) hr).sameTxbuf
    exact fun i hi => (ih i hi).trans (hfirst i hi)

/-! ## The outside is no part of what a byte does -/

/-- The state with another environment. -/
def State.withEnv (s : State) (e : Env) : State := { s with env := e }

theorem State.withEnv_eng (s : State) (e : Env) : (s.withEnv e).eng = s.eng := rfl

theorem State.withEnv_stat (s : State) (e : Env) : (s.withEnv e).stat = s.stat := rfl

theorem State.withEnv_rx (s : State) (e : Env) : (s.withEnv e).rx = s.rx := rfl

theorem lastOfPhase_withEnv (s : State) (e : Env) : (s.withEnv e).lastOfPhase = s.lastOfPhase := rfl

theorem accumulate_withEnv (b : Byte) (s : State) (e : Env) : (s.withEnv e).accumulate b = (s.accumulate b).withEnv e := rfl

theorem ite_withEnv (c : Prop) [Decidable c] (s t : State) (e : Env) :
    (if c then s.withEnv e else t.withEnv e) = (if c then s else t).withEnv e :=
  (apply_ite (State.withEnv · e) c s t).symm

theorem enterPay_withEnv (s : State) (e : Env) : enterPay (s.withEnv e) = (enterPay s).withEnv e := by
  unfold enterPay
  rw [State.withEnv_eng]
  split <;> rfl

theorem takeEcho_withEnv (s : State) (e : Env) : takeEcho (s.withEnv e) = (takeEcho s).withEnv e := by
  unfold takeEcho
  rw [lastOfPhase_withEnv]
  split <;> rfl

theorem takeStat_withEnv (b : Byte) (s : State) (e : Env) : takeStat b (s.withEnv e) = (takeStat b s).withEnv e := by
  have hpay : enterPay ((afterStat b s).withEnv e) = _ := enterPay_withEnv _ e
  exact (congrArg (ite _ _) hpay).trans (ite_withEnv _ (afterStat b s).endTransfers _ e)

theorem putRx_withEnv (s : State) (i : Nat) (b : Byte) (e : Env) : (s.withEnv e).putRx i b = (s.putRx i b).withEnv e := by
  unfold State.putRx
  split <;> rfl

theorem storePayload_withEnv (b : Byte) (s : State) (e : Env) :
    storePayload b (s.withEnv e) = (storePayload b s).withEnv e := by
  unfold storePayload
  rw [State.withEnv_eng, State.withEnv_rx, putRx_withEnv]
  split <;> rfl

theorem takePay_withEnv (b : Byte) (s : State) (e : Env) : takePay b (s.withEnv e) = (takePay b s).withEnv e := by
  unfold takePay
  simp only [accumulate_withEnv, storePayload_withEnv, State.withEnv_eng, ite_withEnv, lastOfPhase_withEnv]
  exact ite_withEnv _ (enterCsum _) (State.countDown _) e

theorem rxTransfer_withEnv (b : Byte) (s : State) (e : Env) : rxTransfer b (s.withEnv e) = (rxTransfer b s).withEnv e := by
  have hdraw : (s.withEnv e).freshDraw = s.freshDraw.withEnv e := rfl
  unfold rxTransfer takeByte
  rw [hdraw, State.withEnv_eng]
  cases s.freshDraw.eng.seq with
  | rxEcho => exact takeEcho_withEnv _ e
  | rxStat => exact takeStat_withEnv b _ e
  | rxPay => exact takePay_withEnv b _ e
  | _ => rfl

theorem Receives.withEnv {s t : State} {bs : List Byte} (h : Receives s bs t) (e : Env) :
    Receives (s.withEnv e) bs (t.withEnv e) := by
  induction h with
  | nil _ => exact .nil _
  | cons hr hd _ ih =>
    rw [← rxTransfer_withEnv] at ih
    exact .cons hr hd ih

theorem completion_withEnv (s : State) (e : Env) : completion (s.withEnv e) = (completion s).withEnv e := by
  unfold completion
  rw [State.withEnv_eng]
  cases s.eng.seq <;> rfl

theorem completion_idle {s : State} (h : s.transfersDone = true) : (completion s).eng.seq = .idle := by
  obtain ⟨hs | hs | hs, -⟩ := transfersDone_eq_true.1 h <;> simp [completion, hs, completeSend, finishShort, finishFrame]

/-! ## The edges at which the bytes come -/

/-- With no command in progress clock edges do nothing. -/
theorem run_idle {s : State} {es : List (Bool × Bool)} {rest : List Event} (hs : s.eng.seq = .idle)
    (hh : s.env.held = false) (hp : s.env.pending = clockEdges es ++ rest) :
    Host.Core.run core es.length s = .next (s.afterEvent rest) := by
  induction es generalizing s with
  | nil =>
    have hrest : s.env.pending = rest := hp
    subst hrest
    rfl
  | cons e es ih =>
    have hstep := step_stalled hp hh (transfersDone_idle hs) (by simp [hs]) (by simp [hs, Seq.reading])
    exact (run_succ (M := core) hstep _).trans (ih (s := s.afterEvent _) hs hh rfl)

/-- With no byte left, the first of the edges is the completion. -/
theorem run_completion {s : State} {e : Bool × Bool} {es : List (Bool × Bool)} {rest : List Event}
    (hr : s.inReset = false) (hd : s.transfersDone = true) (hp : s.env.pending = clockEdges (e :: es) ++ rest) :
    Host.Core.run core (es.length + 1) s = .next ((completion s).withEnv { s.env with pending := rest }) := by
  have hstep : step s = .next ((completion s).withEnv { s.env with pending := clockEdges es ++ rest }) := by
    rw [← completion_withEnv, step_clkEdge hp]
    exact congrArg Host.Outcome.next (clockEdge_completes (s := s.afterEvent (clockEdges es ++ rest)) hr hd)
  exact (run_succ (M := core) hstep _).trans (run_idle (completion_idle hd) (held_of_not_inReset hr) rfl)

theorem ne_tx_of_reading {s : State} (h : s.eng.seq.reading = true) : s.eng.seq ≠ .tx := fun htx => by
  simp [htx, Seq.reading] at h

/-- At an edge at which RxSource offers a byte that READ_RESP awaits, it takes it (R49). -/
theorem step_receives {s : State} {txReady : Bool} {rest : List Event} {b : Byte} {stream : List Byte}
    (hp : s.env.pending = .clkEdge true txReady :: rest) (hr : s.inReset = false) (hs : s.eng.seq.reading = true)
    (hd : s.transfersDone = false) (hstream : s.env.rxStream = b :: stream) :
    step s = .next ((rxTransfer b s).withEnv { s.env with pending := rest, rxStream := stream }) := by
  have htx : (s.afterEvent rest).eng.seq ≠ .tx := ne_tx_of_reading hs
  have hs : (s.afterEvent rest).eng.seq.reading = true := hs
  have htake : receiveEdge true (s.afterEvent rest) =
      rxTransfer b (s.withEnv { s.env with pending := rest, rxStream := stream }) := by
    unfold receiveEdge
    rw [State.afterEvent_env_rxStream, hstream]
    rfl
  rw [step_clkEdge hp, clockEdge_transfers (s := s.afterEvent rest) hr hd, if_neg htx, if_pos hs, htake, rxTransfer_withEnv]

/-- Over clock edges that offer the bytes of a response, and one edge more, READ_RESP takes them, none beyond them, and
completes. -/
theorem run_read {s t : State} {frame tail : List Byte} {es : List (Bool × Bool)} {last : Bool × Bool} {rest : List Event}
    (h : Receives s frame t) (hd : t.transfersDone = true) (hr : s.inReset = false)
    (hstream : s.env.rxStream = frame ++ tail) (hp : s.env.pending = clockEdges (es ++ [last]) ++ rest)
    (hoffered : frame.length ≤ offered es) :
    Host.Core.run core (es.length + 1) s =
      .next ((completion t).withEnv { s.env with pending := rest, rxStream := tail }) := by
  induction es generalizing s t frame with
  | nil =>
    cases h with
    | nil _ =>
      have hstream : s.env.rxStream = tail := hstream
      rw [← hstream]
      exact run_completion hr hd hp
    | cons _ _ _ => simp [offered] at hoffered
  | cons e es ih =>
    cases h with
    | nil _ =>
      have hstream : s.env.rxStream = tail := hstream
      have hrun := run_completion (es := es ++ [last]) hr hd hp
      rw [List.length_append] at hrun
      rw [← hstream]
      exact hrun
    | @cons _ _ b bs hs hwaits hrest =>
      have hp : s.env.pending = .clkEdge e.1 e.2 :: (clockEdges (es ++ [last]) ++ rest) := hp
      cases hvalid : e.1 with
      | true =>
        rw [hvalid] at hp
        have hstep := step_receives hp hr hs hwaits hstream
        have hsame := hrest.withEnv { s.env with pending := clockEdges (es ++ [last]) ++ rest, rxStream := bs ++ tail }
        have hmore := ih hsame hd hr rfl rfl (by simpa [offered, hvalid] using hoffered)
        rw [completion_withEnv] at hmore
        exact (run_succ (M := core) hstep _).trans hmore
      | false =>
        rw [hvalid] at hp
        have hstep := step_stalled hp (held_of_not_inReset hr) hwaits (absurd · (ne_tx_of_reading hs))
          fun _ => .inl rfl
        have hsame : Receives (s.afterEvent (clockEdges (es ++ [last]) ++ rest)) (b :: bs) _ :=
          Receives.withEnv (.cons hs hwaits hrest) _
        have hmore := ih hsame hd hr hstream rfl (by simpa [offered, hvalid] using hoffered)
        rw [completion_withEnv] at hmore
        exact (run_succ (M := core) hstep _).trans hmore

/-! ## The phases before the payload -/

/-- The bytes lead to a state with the given hidden values, and none of them is stored. -/
structure Reaches (s : State) (bs : List Byte) (e : Engine) (t : State) : Prop where
  receives : Receives s bs t
  eng : t.eng = e
  buffers : SameBuffers s t

theorem SameBuffers.trans {s t u : State} (h : SameBuffers s t) (h' : SameBuffers t u) : SameBuffers s u := by
  obtain ⟨hmem, htx, hrx⟩ := h
  obtain ⟨hmem', htx', hrx'⟩ := h'
  exact ⟨fun a => (hmem' a).trans (hmem a), fun i => (htx' i).trans (htx i), fun i => (hrx' i).trans (hrx i)⟩

theorem Reaches.trans {s t u : State} {bs cs : List Byte} {e f : Engine} (h : Reaches s bs e t) (h' : Reaches t cs f u) :
    Reaches s (bs ++ cs) f u :=
  ⟨h.receives.append h'.receives, h'.eng, h.buffers.trans h'.buffers⟩

/-- A byte that is no payload byte of a positive response is not stored. -/
theorem rxTransfer_sameBuffers {b : Byte} {s : State} (hr : s.eng.seq.reading = true) (hs : s.eng.seq ≠ .rxPay) :
    SameBuffers s (rxTransfer b s) := by
  have htaken := rxTransfer_taken (b := b) hr
  generalize rxTransfer b s = t at htaken
  cases htaken
  case payLast hpay _ _ => exact absurd hpay hs
  case payMore hpay _ _ => exact absurd hpay hs
  all_goals exact sameBuffers_of_mem rfl rfl rfl

theorem reaches_byte {s : State} {b : Byte} {e : Engine} (hr : s.eng.seq.reading = true) (hd : s.transfersDone = false)
    (hs : s.eng.seq ≠ .rxPay) (he : (rxTransfer b s).eng = e) : Reaches s [b] e (rxTransfer b s) :=
  ⟨.cons hr hd (.nil _), he, rxTransfer_sameBuffers hr hs⟩

theorem rxTransfer_echo {b : Byte} {s : State} (hs : s.eng.seq = .rxEcho) : rxTransfer b s = takeEcho s.freshDraw := by
  simp [rxTransfer, takeByte, hs]

theorem rxTransfer_len {b : Byte} {s : State} (hs : s.eng.seq = .rxLen) : rxTransfer b s = takeLen b s.freshDraw := by
  simp [rxTransfer, takeByte, hs]

theorem rxTransfer_stat {b : Byte} {s : State} (hs : s.eng.seq = .rxStat) : rxTransfer b s = takeStat b s.freshDraw := by
  simp [rxTransfer, takeByte, hs]

theorem rxTransfer_csum {b : Byte} {s : State} (hs : s.eng.seq = .rxCsum) : rxTransfer b s = takeCsum b s.freshDraw := by
  simp [rxTransfer, takeByte, hs]

/-- The echo is discarded to its last byte (R78). -/
theorem reaches_echo {s : State} {echo : List Byte} (hs : s.eng.seq = .rxEcho) (hne : echo ≠ [])
    (hcnt : s.eng.cnt.toNat = echo.length) : ∃ t, Reaches s echo { s.eng with seq := .rxLen, cnt := 1 } t := by
  induction echo generalizing s with
  | nil => exact absurd rfl hne
  | cons b echo ih =>
    have hr : s.eng.seq.reading = true := by simp [hs, Seq.reading]
    have hd : s.transfersDone = false := by simp [State.transfersDone, hs, Seq.completes]
    have hpay : s.eng.seq ≠ .rxPay := by simp [hs]
    cases echo with
    | nil =>
      have hlast : s.freshDraw.lastOfPhase = true := lastOfPhase_eq_true.2 hcnt.le
      have heng : (rxTransfer b s).eng = { s.eng with seq := .rxLen, cnt := 1 } := by
        rw [rxTransfer_echo hs, takeEcho, if_pos hlast]
        rfl
      exact ⟨_, reaches_byte hr hd hpay heng⟩
    | cons c echo =>
      have hmore : ¬ s.freshDraw.lastOfPhase = true := by simp [hcnt]
      have heng : (rxTransfer b s).eng = { s.eng with cnt := s.eng.cnt - 1 } := by
        rw [rxTransfer_echo hs, takeEcho, if_neg hmore]
        rfl
      have hleft : (rxTransfer b s).eng.cnt.toNat = (c :: echo).length := by
        rw [heng]
        simp only [List.length_cons] at hcnt ⊢
        bv_omega
      obtain ⟨t, ht⟩ := ih (s := rxTransfer b s) (by rw [heng]; exact hs) (by simp) hleft
      rw [heng] at ht
      exact ⟨t, (reaches_byte hr hd hpay heng).trans ht⟩

/-- From its acceptance READ_RESP discards the echo, sums and latches the length byte, and awaits the status byte (R78, R79). -/
theorem reaches_stat {s : State} {echo : List Byte} (len : Byte) (hlen : echo.length = s.rx.echoLen.toNat) :
    ∃ t, Reaches (enterEcho s) (echo ++ [len])
      { s.eng with seq := .rxStat, cnt := 1, acc := s.eng.acc + len, latL := len } t := by
  obtain ⟨t, ht⟩ : ∃ t, Reaches (enterEcho s) echo { s.eng with seq := .rxLen, cnt := 1 } t := by
    by_cases hecho : s.rx.echoLen = 0
    · have hnil : echo = [] := List.length_eq_zero_iff.1 (by simp [hlen, hecho])
      subst hnil
      exact ⟨_, .nil _, by simp [enterEcho, hecho]; rfl, sameBuffers_of_mem rfl rfl rfl⟩
    · have hne : echo ≠ [] := fun hnil => hecho (BitVec.eq_of_toNat_eq (by simp [← hlen, hnil]))
      have hstart : enterEcho s = s.enter .rxEcho s.rx.echoLen := if_neg hecho
      rw [hstart]
      exact reaches_echo rfl hne hlen.symm
  have hs : t.eng.seq = .rxLen := by rw [ht.eng]
  refine ⟨rxTransfer len t, ht.trans (reaches_byte ?_ ?_ ?_ ?_)⟩
  · simp [hs, Seq.reading]
  · simp [State.transfersDone, hs, Seq.completes]
  · simp [hs]
  · rw [rxTransfer_len hs]
    simp [takeLen, State.enter, State.accumulate, ht.eng]

/-- With one byte left of its phase, the status byte is awaited (R80). -/
theorem awaits_stat {s : State} (hs : s.eng.seq = .rxStat) (hc : s.eng.cnt = 1) :
    s.eng.seq.reading = true ∧ s.transfersDone = false := by
  refine ⟨by simp [hs, Seq.reading], transfersDone_eq_false ?_⟩
  rw [hc]
  decide

/-- With `NEG_DRAIN = 0` a negative status byte is the last one taken (R80). -/
theorem reaches_negative {s : State} {echo : List Byte} (len : Byte) (hlen : echo.length = s.rx.echoLen.toNat)
    (hn : s.eng.negDrainL = false) :
    ∃ t, Reaches (enterEcho s) (echo ++ [len] ++ [0x7F])
      { s.eng with seq := .rxStat, cnt := 0, acc := s.eng.acc + len + 0x7F, latL := len, latSt := 0x7F } t := by
  obtain ⟨t, ht⟩ := reaches_stat len hlen
  have hs : t.eng.seq = .rxStat := by rw [ht.eng]
  obtain ⟨hr, hd⟩ := awaits_stat hs (by rw [ht.eng])
  have hlast : rxTransfer 0x7F t = (afterStat 0x7F t.freshDraw).endTransfers := by
    rw [rxTransfer_stat hs]
    exact if_pos ⟨rfl, by simp [ht.eng, hn]⟩
  refine ⟨_, ht.trans (reaches_byte hr hd (by simp [hs]) ?_)⟩
  rw [hlast]
  simp [State.endTransfers, afterStat, State.accumulate, ht.eng]

/-! ## The payload (R81, R82) -/

/-- From the first state on, a response with length byte `len` and status `st` has been taken up to its payload bytes `p`, which
are summed and, unless the response is negative, stored up to the capacity. -/
structure PayloadTaken (s : State) (len st : Byte) (p : List Byte) (t : State) : Prop where
  rx : t.rx = s.rx
  latL : t.eng.latL = len
  latSt : t.eng.latSt = st
  acc : t.eng.acc = responseChecksum len st p
  negative : st = 0x7F → SameBuffers s t
  positive : st ≠ 0x7F → t.payloadRead p.length ∧
    ∀ i, t.rxCell i = if i < s.rx.cap.toNat then p[i]?.getD (s.rxCell i) else s.rxCell i

theorem PayloadTaken.payByte {s t u : State} {len st b : Byte} {p : List Byte} (h : PayloadTaken s len st p t)
    (hcap : s.rx.cap.toNat ≤ 80) (hu : PayByte b t u) : PayloadTaken s len st (p ++ [b]) u := by
  obtain ⟨-, -, -, hrx, -⟩ := hu.same
  obtain ⟨hacc, -, -, -, -, hlen, hst⟩ := hu.engine
  have hcapt : t.rx.cap.toNat ≤ 80 := by rwa [h.rx]
  refine ⟨hrx.trans h.rx, hlen.trans h.latL, hst.trans h.latSt, ?_, fun hneg => ?_, fun hpos => ?_⟩
  · rw [hacc, h.acc, responseChecksum_concat]
  · rw [hu.eq_accumulate (h.latSt.trans hneg)]
    exact h.negative hneg
  · obtain ⟨hread, hcell⟩ := h.positive hpos
    have hpos : t.eng.latSt ≠ Config.negCode := fun hneg => hpos (h.latSt.symm.trans hneg)
    refine ⟨?_, fun i => ?_⟩
    · rw [List.length_append]
      exact hu.payloadRead hpos hcapt hread
    · rw [hu.rxCell hpos hcapt hread, hcell, h.rx]
      by_cases hi : i = p.length
      · simp [hi]
      · by_cases hlt : i < p.length
        · simp [hi, hlt, List.getElem?_append_left]
        · simp [hi, List.getElem?_eq_none (show (p ++ [b]).length ≤ i by simp; omega),
            List.getElem?_eq_none (Nat.le_of_not_lt hlt)]

/-- A payload byte taken is the last of its phase, or leaves one fewer (R82). -/
theorem rxTransfer_pay (b : Byte) {s : State} (hs : s.eng.seq = .rxPay) :
    ∃ u, PayByte b s.freshDraw u ∧ rxTransfer b s = if s.eng.cnt.toNat ≤ 1 then enterCsum u else u.countDown := by
  have htaken := rxTransfer_taken (b := b) (s := s) (by simp [hs, Seq.reading])
  generalize rxTransfer b s = t at htaken
  cases htaken
  case payLast u _ hu hc => exact ⟨u, hu, (if_pos hc).symm⟩
  case payMore u _ hu hc => exact ⟨u, hu, (if_neg (Nat.not_le.2 hc)).symm⟩
  case echoLast hq _ | echoMore hq _ | len hq | statNegative hq _ _ | statNoPayload hq _ _ | statPayload hq _ _ | csum hq =>
    exact nomatch hs.symm.trans hq

/-- The payload bytes are taken to the last, and the checksum byte is awaited (R82, R83). -/
theorem receives_payload {s t : State} {len st : Byte} {p q : List Byte} (h : PayloadTaken s len st p t)
    (hcap : s.rx.cap.toNat ≤ 80) (hs : t.eng.seq = .rxPay) (hne : q ≠ []) (hcnt : t.eng.cnt.toNat = q.length) :
    ∃ u, Receives t q u ∧ u.eng.seq = .rxCsum ∧ u.eng.cnt = 1 ∧ PayloadTaken s len st (p ++ q) u := by
  induction q generalizing t p with
  | nil => exact absurd rfl hne
  | cons b q ih =>
    have hr : t.eng.seq.reading = true := by simp [hs, Seq.reading]
    have hd : t.transfersDone = false := by simp [State.transfersDone, hs, Seq.completes]
    obtain ⟨u, hu, htransfer⟩ := rxTransfer_pay b hs
    have hdrawn : PayloadTaken s len st p t.freshDraw := { h with }
    have htaken := hdrawn.payByte hcap hu
    obtain ⟨-, hseq, -, hleft, -⟩ := hu.engine
    cases q with
    | nil =>
      rw [if_pos (show t.eng.cnt.toNat ≤ 1 from hcnt.le)] at htransfer
      refine ⟨_, .cons hr hd (.nil _), ?_⟩
      rw [htransfer]
      exact ⟨rfl, rfl, { htaken with }⟩
    | cons c q =>
      rw [if_neg (by simp [hcnt])] at htransfer
      have hmore : PayloadTaken s len st (p ++ [b]) u.countDown := { htaken with }
      have hcount : u.countDown.eng.cnt.toNat = (c :: q).length := by
        rw [State.countDown_eng_cnt, hleft]
        simp only [State.freshDraw_eng, List.length_cons] at hcnt ⊢
        bv_omega
      obtain ⟨v, hv, hvs, hvc, hvt⟩ := ih hmore (hseq.trans hs) (by simp) hcount
      rw [List.append_assoc] at hvt
      rw [← htransfer] at hv
      exact ⟨v, .cons hr hd hv, hvs, hvc, hvt⟩

/-- So they are where there are none (R82). -/
theorem receives_enterPay {s t : State} {len st : Byte} {payload : List Byte} (h : PayloadTaken s len st [] t)
    (hcap : s.rx.cap.toNat ≤ 80) (hp : payload.length = payloadCount len) :
    ∃ u, Receives (enterPay t) payload u ∧ u.eng.seq = .rxCsum ∧ u.eng.cnt = 1 ∧ PayloadTaken s len st payload u := by
  unfold enterPay
  rw [h.latL]
  split_ifs with hnone
  · have hnil : payload = [] := List.length_eq_zero_iff.1 (hp.trans hnone)
    subst hnil
    exact ⟨_, .nil _, rfl, rfl, { h with }⟩
  · have hentered : PayloadTaken s len st [] (t.enter .rxPay (BitVec.ofNat 16 (payloadCount len))) := { h with }
    refine receives_payload hentered hcap rfl (fun hnil => hnone ?_) ?_
    · rw [← hp, hnil]
      rfl
    · rw [State.enter_eng_cnt, payloadCount_ofNat_toNat, hp]

/-! ## A whole frame (R77 to R83) -/

/-- A response that is not cut short at its status byte is taken to its checksum byte. -/
theorem receives_frame {s : State} {echo payload : List Byte} (len st r : Byte) (hcap : s.rx.cap.toNat ≤ 80)
    (hacc : s.eng.acc = 0) (hstored : s.eng.stored = 0) (hdrain : s.eng.drain = false)
    (hst : st = 0x7F → s.eng.negDrainL = true) (hlen : echo.length = s.rx.echoLen.toNat)
    (hp : payload.length = payloadCount len) :
    ∃ t, Receives (enterEcho s) (echo ++ [len] ++ st :: (payload ++ [r])) t ∧ t.eng.seq = .rxCsum ∧ t.eng.cnt = 0 ∧
      t.eng.latR = r ∧ PayloadTaken (enterEcho s) len st payload t := by
  obtain ⟨t, ht⟩ := reaches_stat len hlen
  have hs : t.eng.seq = .rxStat := by rw [ht.eng]
  obtain ⟨hr, hd⟩ := awaits_stat hs (by rw [ht.eng])
  have hresults := ht.receives.sameResults
  have hpay : rxTransfer st t = enterPay (afterStat st t.freshDraw) := by
    have hgoes : ¬ (st = Config.negCode ∧ t.eng.negDrainL = false) := by
      rintro ⟨hneg, hoff⟩
      simp [ht.eng, hst hneg] at hoff
    rw [rxTransfer_stat hs]
    exact if_neg hgoes
  have hread : PayloadTaken (enterEcho s) len st [] (afterStat st t.freshDraw) := by
    have hlatL : t.eng.latL = len := by rw [ht.eng]
    have hsum : t.eng.acc = len := by simp [ht.eng, hacc]
    have hnone : (afterStat st t.freshDraw).payloadRead 0 :=
      afterStat_payloadRead st (by simp [ht.eng, hstored]) (by simp [ht.eng, hdrain]) (hsum.trans hlatL.symm)
    obtain ⟨-, -, hcells⟩ := ht.buffers
    refine ⟨hresults.rx, hlatL, rfl, ?_, fun _ => ht.buffers, fun _ => ⟨hnone, fun i => ?_⟩⟩
    · rw [responseChecksum_nil, ← hsum]
      rfl
    · rw [List.getElem?_nil, Option.getD_none, ite_self]
      exact hcells i
  have hcap : (enterEcho s).rx.cap.toNat ≤ 80 := by
    rw [enterEcho_eq]
    exact hcap
  obtain ⟨u, hu, hus, huc, hut⟩ := receives_enterPay hread hcap hp
  rw [← hpay] at hu
  have hlast : Receives u [r] (rxTransfer r u) :=
    .cons (by simp [hus, Seq.reading]) (transfersDone_eq_false (by simp [huc])) (.nil _)
  refine ⟨rxTransfer r u, ht.receives.append (.cons hr hd (hu.append hlast)), ?_⟩
  rw [rxTransfer_csum hus]
  exact ⟨hus, rfl, rfl, { hut with }⟩

/-! ## From the `CMD` write -/

/-- The state in which READ_RESP has been accepted from its `CMD` write (R77, R92). -/
def State.readAccepted (s : State) : State := enterEcho s.leaveReset.beginCommand.startRead

/-- After its `CMD` write and clock edges that offer a response, and one edge more, READ_RESP has completed. -/
theorem run_readResp {s t : State} {frame tail : List Byte} {es : List (Bool × Bool)} {last : Bool × Bool}
    {rest : List Event} (hs : s.eng.seq = .idle) (hn : s.env.rstN = true) (hcap : s.rx.cap.toNat ≤ 80)
    (hp : s.env.pending = submission 0x00000003 :: (clockEdges (es ++ [last]) ++ rest))
    (h : Receives s.readAccepted frame t) (hd : t.transfersDone = true) (hstream : s.env.rxStream = frame ++ tail)
    (hoffered : frame.length ≤ offered es) :
    Host.Core.run core (2 + es.length) s =
      .next ((completion t).withEnv { s.env with pending := rest, rxStream := tail, held := false }) := by
  have hstep : step s =
      .next (s.readAccepted.withEnv { s.env with pending := clockEdges (es ++ [last]) ++ rest, held := false }) := by
    rw [step_submission hp hn (decodeEncodeRoundTrip .readResp rfl),
      exec_readResp_ok (s := (s.afterEvent (clockEdges (es ++ [last]) ++ rest)).leaveReset) hs hcap, State.readAccepted,
      enterEcho_eq, enterEcho_eq]
    rfl
  have hrun := run_read (h.withEnv { s.env with pending := clockEdges (es ++ [last]) ++ rest, held := false }) hd
    (inReset_eq_false.2 ⟨hn, rfl⟩) hstream rfl hoffered
  rw [completion_withEnv] at hrun
  rw [show 2 + es.length = es.length + 1 + 1 by omega]
  exact (run_succ (M := core) hstep _).trans hrun

/-- What a READ_RESP submitted in the first state has changed of flags and registers when its completion comes: what its
acceptance clears (R77). -/
structure ReadFrame (s t : State) : Prop where
  stat : t.stat = { s.stat with done := false, err := .none, outcome := .none, zlen := false }
  dtc : t.dtc = { s.dtc with valid := false }
  rx : t.rx = s.rx
  ctrl : t.ctrl = s.ctrl
  tx : t.tx = s.tx
  view : t.view = s.view
  dtcTab : t.dtcTab = s.dtcTab
  params : t.params = s.params
  txbuf : SameTxbuf s t

theorem Receives.readFrame {s t : State} {bs : List Byte} (h : Receives s.readAccepted bs t) : ReadFrame s t := by
  obtain ⟨hstat, hctrl, htx, hrx, hdtc, hview, htab, hparams⟩ := h.sameResults
  have htxbuf := h.sameTxbuf
  rw [State.readAccepted, enterEcho_eq] at hstat hctrl htx hrx hdtc hview htab hparams htxbuf
  exact ⟨hstat, hdtc, hrx, hctrl, htx, hview, htab, hparams, htxbuf⟩

theorem SameBuffers.of_readAccepted {s t : State} (h : SameBuffers s.readAccepted t) : SameBuffers s t := by
  rw [State.readAccepted, enterEcho_eq] at h
  exact h

/-! ## The results (R84) -/

theorem finish_rx (s : State) (code : ReadOutcome) (plen summed rcvd : Byte) : (s.finish code plen summed rcvd).rx =
    { s.rx with len := s.eng.latL, status := s.eng.latSt, plen := plen, csumCalc := summed, csumRcvd := rcvd } := rfl

theorem finish_stat (s : State) (code : ReadOutcome) (plen summed rcvd : Byte) : (s.finish code plen summed rcvd).stat =
    { s.stat with done := true, zlen := decide (s.eng.latL = 0), outcome := code } := rfl

theorem finishFrame_negative {s : State} (h : s.eng.latSt = Config.negCode) :
    finishFrame s = s.finish .negative 0 s.eng.acc s.eng.latR := by
  simp [finishFrame, State.csumOutcome, h, State.validCount]

theorem finishFrame_positive {s : State} (h : s.eng.latSt ≠ Config.negCode) :
    finishFrame s = s.finish
      (if s.eng.drain = true then .overflow else if s.eng.latR = s.eng.acc then .ok else .csumMismatch)
      (if s.eng.drain = true then 0 else s.eng.stored.setWidth 8) s.eng.acc s.eng.latR := by
  rw [finishFrame, validCount_csumOutcome]
  simp [State.csumOutcome, h]

/-- Settles O22: the bytes lead to the status phase with none left, and the edge after them completes. -/
theorem readRespStopsAtNegativeStatus : Obligations.ReadRespStopsAtNegativeStatus := by
  intro s es last rest echo tail len hs hn hcap hneg hp hstream hlen hoffered
  obtain ⟨t, hreceives, heng, hbuffers⟩ := reaches_negative (s := s.leaveReset.beginCommand.startRead) len hlen hneg
  have hphase : t.eng.seq = .rxStat := by rw [heng]
  have hlatL : t.eng.latL = len := by rw [heng]
  have hlatSt : t.eng.latSt = 0x7F := by rw [heng]
  have hacc : t.eng.acc = len + 0x7F := by simp [heng]
  have hd : t.transfersDone = true := transfersDone_eq_true.2 ⟨.inr (.inl hphase), by rw [heng]⟩
  have hrun := run_readResp (tail := tail) hs hn hcap hp hreceives hd (by simp [hstream])
    (by simpa [Nat.add_assoc] using hoffered)
  rw [completion_rxStat hphase] at hrun
  have hframe : ReadFrame s t := Receives.readFrame hreceives
  refine ⟨_, hrun, rfl, rfl, ?_, ?_, hframe.dtc, hframe.ctrl, hframe.tx, hframe.view, hframe.dtcTab, hframe.params,
    SameBuffers.of_readAccepted hbuffers⟩
  · rw [State.withEnv_rx, finishShort, finish_rx, hframe.rx, hlatL, hlatSt, hacc]
  · rw [State.withEnv_stat, finishShort, finish_stat, hframe.stat, hlatL]

/-- A READ_RESP over a response that is not cut short at its status byte takes it to its checksum byte and completes. -/
theorem run_frame {s : State} {es : List (Bool × Bool)} {last : Bool × Bool} {rest : List Event}
    {echo payload tail : List Byte} {len st r : Byte} (hs : s.eng.seq = .idle) (hn : s.env.rstN = true)
    (hcap : s.rx.cap.toNat ≤ 80) (hst : st = 0x7F → s.ctrl.negDrain = true)
    (hp : s.env.pending = submission 0x00000003 :: (clockEdges (es ++ [last]) ++ rest))
    (hstream : s.env.rxStream = echo ++ len :: st :: (payload ++ r :: tail)) (hlen : echo.length = s.rx.echoLen.toNat)
    (hpayload : payload.length = payloadCount len) (hoffered : echo.length + payload.length + 3 ≤ offered es) :
    ∃ t, Host.Core.run core (2 + es.length) s =
        .next ((finishFrame t).withEnv { s.env with pending := rest, rxStream := tail, held := false }) ∧
      ReadFrame s t ∧ t.eng.latR = r ∧ PayloadTaken s len st payload t := by
  obtain ⟨t, ht, hphase, hcnt, hr, htaken⟩ :=
    receives_frame (s := s.leaveReset.beginCommand.startRead) len st r hcap rfl rfl rfl hst hlen hpayload
  have hd : t.transfersDone = true := transfersDone_eq_true.2 ⟨.inr (.inr hphase), hcnt⟩
  have hrun := run_readResp (tail := tail) hs hn hcap hp ht hd (by simp [hstream]) (by simp; omega)
  rw [completion_rxCsum hphase] at hrun
  rw [enterEcho_eq] at htaken
  exact ⟨t, hrun, Receives.readFrame ht, hr, { htaken with }⟩

/-- Settles O23: every payload byte is summed, and none is stored. -/
theorem readRespDrainsNegativeFrame : Obligations.ReadRespDrainsNegativeFrame := by
  intro s es last rest echo payload tail len r hs hn hcap hdrain hp hstream hlen hpayload hoffered
  obtain ⟨t, hrun, hframe, hr, htaken⟩ := run_frame hs hn hcap (fun _ => hdrain) hp hstream hlen hpayload hoffered
  rw [finishFrame_negative htaken.latSt] at hrun
  refine ⟨_, hrun, rfl, rfl, ?_, ?_, hframe.dtc, hframe.ctrl, hframe.tx, hframe.view, hframe.dtcTab, hframe.params,
    htaken.negative rfl⟩
  · rw [State.withEnv_rx, finish_rx, hframe.rx, htaken.latL, htaken.latSt, htaken.acc, hr]
  · rw [State.withEnv_stat, finish_stat, hframe.stat, htaken.latL]

/-- Settles O21: every payload byte is summed, and the first `CAP` are stored. -/
theorem readRespReadsPositiveFrame : Obligations.ReadRespReadsPositiveFrame := by
  intro s es last rest echo payload tail len st r hs hn hcap hp hstream hlen hpayload hst hoffered
  obtain ⟨t, hrun, hframe, hr, htaken⟩ :=
    run_frame hs hn hcap (fun hneg => absurd hneg hst) hp hstream hlen hpayload hoffered
  obtain ⟨⟨hstored, hfull, -, -⟩, hcell⟩ := htaken.positive hst
  rw [htaken.rx] at hstored hfull
  have hplen : (if s.rx.cap.toNat < payload.length then 0 else t.eng.stored.setWidth 8) =
      if s.rx.cap.toNat < payload.length then 0 else BitVec.ofNat 8 payload.length := by
    split_ifs with hover
    · rfl
    · have hall : t.eng.stored.toNat = payload.length := by omega
      rw [← hall, BitVec.ofNat_toNat]
  rw [finishFrame_positive fun hneg => hst (htaken.latSt.symm.trans hneg)] at hrun
  simp only [hfull, hplen, htaken.acc, hr] at hrun
  refine ⟨_, hrun, rfl, rfl, ?_, ?_, fun i hi hroom => ?_, fun i hbeyond => ?_, hframe.txbuf, hframe.dtc, hframe.ctrl,
    hframe.tx, hframe.view, hframe.dtcTab, hframe.params⟩
  · rw [State.withEnv_rx, finish_rx, hframe.rx, htaken.latL, htaken.latSt]
  · rw [State.withEnv_stat, finish_stat, hframe.stat, htaken.latL]
  · refine (hcell i).trans ?_
    rw [if_pos hroom, List.getElem?_eq_getElem hi, Option.getD_some]
  · refine (hcell i).trans ?_
    rcases hbeyond with hbeyond | hbeyond
    · rw [List.getElem?_eq_none hbeyond, Option.getD_none, ite_self]
    · rw [if_neg (Nat.not_lt.2 hbeyond)]

end Sys2Proof.Machine

/-! PROOFS. DTC_DECODE (R86, R87): the counts of a payload as numbers, the table it fills, and that no byte beyond the payload
has a part in either. -/

namespace Sys2Proof.Machine

/-! ## The counts of a payload (R87) -/

theorem plen_eq_zero {s : State} : s.rx.plen = 0 ↔ s.rx.plen.toNat = 0 := BitVec.toNat_inj.symm

theorem dtcDeclared_toNat (s : State) :
    s.dtcDeclared.toNat = if s.rx.plen.toNat = 0 then 0 else (s.rxCell 0).toNat := by
  unfold State.dtcDeclared
  simp only [plen_eq_zero]
  split_ifs <;> rfl

/-- An empty payload declares no record, so the clamp covers it. -/
theorem dtcEffective_eq (s : State) : s.dtcEffective = min s.dtcDeclared.toNat s.dtcPresent := by
  unfold State.dtcEffective
  split_ifs with hp
  · simp [State.dtcDeclared, hp]
  · rfl

theorem dtcTruncated_iff (s : State) :
    s.dtcTruncated = true ↔ s.rx.plen.toNat = 0 ∨ s.dtcPresent < s.dtcDeclared.toNat := by
  unfold State.dtcTruncated
  simp only [plen_eq_zero]
  split_ifs with hp <;> simp [hp]

/-- `NEFF` holds the effective count, which a declared count of 8 bits bounds. -/
theorem dtcEffective_ofNat_toNat (s : State) : (BitVec.ofNat 8 s.dtcEffective).toNat = s.dtcEffective := by
  have hle := (dtcEffective_le s).1
  have hlt := s.dtcDeclared.isLt
  rw [BitVec.toNat_ofNat, Nat.mod_eq_of_lt (hle.trans_lt hlt)]

/-! ## The table (R86) -/

theorem putRecords_dtcRecord (s : State) {k : Nat} (hk : k < 26) :
    s.putRecords.dtcRecord k = if k < s.dtcEffective then s.payloadRecord k else .zero := by
  simp [dtcRecord_eq_getElem _ hk]

/-! ## The command -/

theorem acceptDtcDecode_ok {s : State} (h : s.stat.outcome = .ok) : acceptDtcDecode s = s.putRecords.complete :=
  if_neg (not_not_intro h)

theorem exec_dtcDecode_ok {s : State} (hs : s.eng.seq = .idle) (hok : s.stat.outcome = .ok) :
    exec .dtcDecode s = .next s.beginCommand.putRecords.complete := by
  rw [exec_idle _ hs, acceptance, acceptDtcDecode_ok (s := s.beginCommand) hok]

/-- Settles O24: the next state is `putRecords` and the completion, written out. -/
theorem dtcDecodeWritesTable : Obligations.DtcDecodeWritesTable := by
  intro s hs hok _
  have hneff : (BitVec.ofNat 8 s.dtcEffective).toNat = min s.dtcDeclared.toNat s.dtcPresent :=
    (dtcEffective_ofNat_toNat s).trans (dtcEffective_eq s)
  have hrecord (k : Nat) (hk : k < 26) : s.putRecords.dtcRecord k =
      if k < min s.dtcDeclared.toNat s.dtcPresent then s.payloadRecord k else .zero :=
    dtcEffective_eq s ▸ putRecords_dtcRecord s hk
  exact ⟨_, _, _, exec_dtcDecode_ok hs hok, dtcDeclared_toNat s, rfl, rfl, hneff, rfl, dtcTruncated_iff s, hrecord, rfl, rfl,
    rfl, rfl, rfl, rfl, complete_eng_of_idle hs, rfl, rfl, rfl, sameBuffers_of_mem rfl rfl rfl⟩

/-- Settles O25. -/
theorem dtcDecodeRefusesWithoutOk : Obligations.DtcDecodeRefusesWithoutOk := by
  intro s hs hne
  have hne : s.beginCommand.stat.outcome ≠ .ok := hne
  rw [exec_idle _ hs, acceptance, acceptDtcDecode, if_pos hne, beginCommand_refuse]

/-- Settles O27: a decode changes nothing that it reads. -/
theorem dtcDecodeRepeats : Obligations.DtcDecodeRepeats := by
  intro s t hs hok hexec
  cases (exec_dtcDecode_ok hs hok).symm.trans hexec
  exact exec_dtcDecode_ok (s := s.beginCommand.putRecords.complete) rfl hok

/-! ## What a decode reads (R87) -/

/-- Two states with the same response payload, whatever RXBUF holds beyond it. -/
structure SamePayload (s t : State) : Prop where
  plen : t.rx.plen = s.rx.plen
  cell : ∀ i < s.rx.plen.toNat, t.rxCell i = s.rxCell i

namespace SamePayload

theorem dtcDeclared {s t : State} (h : SamePayload s t) : t.dtcDeclared = s.dtcDeclared := by
  unfold State.dtcDeclared
  rw [h.plen]
  split_ifs with hp
  · rfl
  · exact h.cell 0 (Nat.pos_of_ne_zero fun h0 => hp (plen_eq_zero.2 h0))

theorem dtcPresent {s t : State} (h : SamePayload s t) : t.dtcPresent = s.dtcPresent := by
  rw [State.dtcPresent, State.dtcPresent, h.plen]

theorem dtcEffective {s t : State} (h : SamePayload s t) : t.dtcEffective = s.dtcEffective := by
  rw [dtcEffective_eq, dtcEffective_eq, h.dtcDeclared, h.dtcPresent]

theorem dtcTruncated {s t : State} (h : SamePayload s t) : t.dtcTruncated = s.dtcTruncated := by
  rw [State.dtcTruncated, State.dtcTruncated, h.plen, h.dtcDeclared, h.dtcPresent]

/-- The clamp is what keeps every byte of an effective record below `RX_PLEN`. -/
theorem payloadRecord {s t : State} (h : SamePayload s t) {k : Nat} (hk : k < s.dtcEffective) :
    t.payloadRecord k = s.payloadRecord k := by
  have hpresent : k < (s.rx.plen.toNat - 1) / 3 := hk.trans_le (dtcEffective_le s).2
  have hcell (j : Nat) (hj : j ≤ 3) : t.rxCell (j + 3 * k) = s.rxCell (j + 3 * k) := h.cell _ (by omega)
  rw [State.payloadRecord, State.payloadRecord, hcell 1 (by decide), hcell 2 (by decide), hcell 3 (by decide)]

theorem putRecords_dtcTab {s t : State} (h : SamePayload s t) : t.putRecords.dtcTab = s.putRecords.dtcTab := by
  rw [State.putRecords_dtcTab, State.putRecords_dtcTab, h.dtcEffective]
  congr 1
  funext k
  split_ifs with hk
  · exact h.payloadRecord hk
  · rfl

theorem putRecords_dtc {s t : State} (h : SamePayload s t) : t.putRecords.dtc = s.putRecords.dtc := by
  simp only [State.putRecords, h.dtcDeclared, h.dtcEffective, h.dtcTruncated]

end SamePayload

/-- Settles O26: the table and `DTC_INFO` are `putRecords`' own, which equal payloads make equal. -/
theorem dtcDecodeReadsOnlyPayload : Obligations.DtcDecodeReadsOnlyPayload := by
  intro s s' t t' hs hs' hok hok' hplen hcell hexec hexec'
  cases (exec_dtcDecode_ok hs hok).symm.trans hexec
  cases (exec_dtcDecode_ok hs' hok').symm.trans hexec'
  have same : SamePayload s s' := ⟨hplen, hcell⟩
  refine ⟨same.putRecords_dtcTab, same.putRecords_dtc, fun hp => ?_, fun hp => ?_⟩
  · have hdeclared : s.dtcDeclared.toNat = (s.rxCell 0).toNat := by rw [dtcDeclared_toNat, if_neg hp]
    rw [← hdeclared]
    exact ⟨(dtcEffective_ofNat_toNat s).trans (dtcEffective_eq s), (dtcTruncated_iff s).trans (or_iff_right hp)⟩
  · have hdeclared : s.dtcDeclared = 0 := if_pos (plen_eq_zero.2 hp)
    have heffective : s.dtcEffective = 0 := if_pos (plen_eq_zero.2 hp)
    exact ⟨hdeclared, congrArg (BitVec.ofNat 8) heffective, (dtcTruncated_iff s).2 (.inl hp)⟩

end Sys2Proof.Machine

/-! PROOFS. DTC_VIEW and DTC_VIEW.IN (R90, R91): the view of a record, and the refusal of a bad index. -/

namespace Sys2Proof.Machine

/-- The next state of a command that renders `r`: the VIEW registers hold its view, the command is complete, and all else is
as before (R90). -/
def ViewWritten (s t : State) (r : DtcRecord) : Prop :=
  t.view = { s.view with
    record := r, code := codeWord r.high r.low,
    ascii0 := packBytes (toCode r.high r.low).c0 (toCode r.high r.low).c1 (toCode r.high r.low).c2 (toCode r.high r.low).c3,
    ascii1 := (toCode r.high r.low).c4, status := describeStatus s.params r.status } ∧
  t.stat = { s.stat with done := true, err := .none } ∧ t.busy = false ∧
  t.ctrl = s.ctrl ∧ t.tx = s.tx ∧ t.rx = s.rx ∧ t.dtc = s.dtc ∧ t.dtcTab = s.dtcTab ∧ t.eng = s.eng ∧
  t.params = s.params ∧ t.free = s.free ∧ t.env = s.env ∧ SameBuffers s t

theorem putView_viewWritten {s : State} (hs : s.eng.seq = .idle) (r : DtcRecord) :
    ViewWritten s (s.beginCommand.putView r).complete r :=
  ⟨rfl, rfl, rfl, rfl, rfl, rfl, rfl, rfl, complete_eng_of_idle hs, rfl, rfl, rfl, sameBuffers_of_mem rfl rfl rfl⟩

theorem badIndex_eq_true {s : State} {idx : Nat} :
    s.badIndex idx = true ↔ s.dtc.valid = false ∨ s.dtc.neff.toNat ≤ idx := by
  simp [State.badIndex]

theorem acceptDtcView_ok {s : State} {idx : Nat} (hv : s.dtc.valid = true) (hi : idx < s.dtc.neff.toNat) :
    acceptDtcView idx s = (s.putView (s.dtcRecord idx)).complete := by
  simp [acceptDtcView, State.badIndex, hv, hi]

/-- Settles O28. -/
theorem dtcViewRendersTableRecord : Obligations.DtcViewRendersTableRecord := by
  intro s idx hs hvalid hidx hneff
  have hlt : idx < 26 := hidx.trans_le hneff
  have hexec : exec (.dtcView idx) s = .next (s.beginCommand.putView s.dtcTab[idx]).complete := by
    rw [exec_idle _ hs, acceptance, acceptDtcView_ok (s := s.beginCommand) hvalid hidx, dtcRecord_eq_getElem _ hlt]
    rfl
  exact ⟨_, _, hexec, Vector.getElem?_eq_getElem hlt, putView_viewWritten hs _⟩

/-- Settles O29. -/
theorem dtcViewRefusesBadIndex : Obligations.DtcViewRefusesBadIndex := by
  intro s idx hs hbad
  have hbad : s.beginCommand.badIndex idx = true := badIndex_eq_true.2 hbad
  rw [exec_idle _ hs, acceptance, acceptDtcView, if_pos hbad, beginCommand_refuse]

/-- Settles O30. -/
theorem dtcViewInRendersInput : Obligations.DtcViewInRendersInput := by
  intro s hs
  exact ⟨_, _, exec_idle _ hs, rfl, putView_viewWritten hs _⟩

end Sys2Proof.Machine

/-! PROOFS. The code of a record (R88) and the class of a symptom (R89). -/

namespace Sys2Proof.Machine

/-! ## The five characters (R88) -/

theorem hexDigit_toNat (x : BitVec 4) : (hexDigit x).toNat = (if x.toNat < 10 then 0x30 else 0x37) + x.toNat := by
  unfold hexDigit
  split_ifs <;> rw [BitVec.toNat_ofNat] <;> omega

theorem familyLetter_toNat (f : BitVec 2) :
    (familyLetter f).toNat = if f.toNat = 0 then 0x50 else if f.toNat = 1 then 0x43 else if f.toNat = 2 then 0x42 else 0x55 := by
  revert f
  decide

theorem hexDigit_injective : Function.Injective hexDigit := by
  intro x y h
  have h := congrArg BitVec.toNat h
  rw [hexDigit_toNat, hexDigit_toNat] at h
  apply BitVec.eq_of_toNat_eq
  split_ifs at h <;> omega

theorem familyLetter_injective : Function.Injective familyLetter := by decide

theorem familyOf_toNat (high : Byte) : (familyOf high).toNat = high.toNat / 64 := by
  have := high.isLt
  simp only [familyOf, BitVec.extractLsb'_toNat, Nat.shiftRight_eq_div_pow]
  omega

theorem secondDigit_toNat (high : Byte) :
    ((0 : BitVec 2) ++ high.extractLsb' 4 2).toNat = high.toNat / 16 % 4 := by
  simp only [toNat_concat, BitVec.extractLsb'_toNat, Nat.shiftRight_eq_div_pow]
  simp

theorem highNibble_toNat (b : Byte) : (b.extractLsb' 4 4).toNat = b.toNat / 16 := by
  have := b.isLt
  simp only [BitVec.extractLsb'_toNat, Nat.shiftRight_eq_div_pow]
  omega

theorem lowNibble_toNat (b : Byte) : (b.extractLsb' 0 4).toNat = b.toNat % 16 := by
  rw [BitVec.extractLsb'_toNat, Nat.shiftRight_zero]

/-- Settles O31: each character is the letter or the digit of its field of the two bytes. -/
theorem codeCharactersOfRecord : Obligations.CodeCharactersOfRecord := by
  refine ⟨fun high low => ⟨?_, ?_, ?_, ?_, ?_, ?_⟩, rfl, rfl⟩
  · rw [toCode, familyLetter_toNat, familyOf_toNat]
  · have hdigit : high.toNat / 16 % 4 < 10 := by omega
    rw [toCode, hexDigit_toNat, secondDigit_toNat, if_pos hdigit]
  · rw [toCode, hexDigit_toNat, lowNibble_toNat]
  · rw [toCode, hexDigit_toNat, highNibble_toNat]
  · rw [toCode, hexDigit_toNat, lowNibble_toNat]
  · rw [viewCodeHoldsRecord high low]
    omega

/-- A byte is its two nibbles. -/
theorem byte_eq_of_nibbles {b c : Byte} (hhigh : b.toNat / 16 = c.toNat / 16) (hlow : b.toNat % 16 = c.toNat % 16) :
    b = c :=
  BitVec.eq_of_toNat_eq (by omega)

/-- Settles O33: each character determines its field, and the five fields are the two bytes. -/
theorem codeDeterminesRecord : Obligations.CodeDeterminesRecord := by
  intro high low high' low' h
  obtain ⟨h0, h1, h2, h3, h4⟩ := DtcCode.mk.inj h
  have hfamily := congrArg BitVec.toNat (familyLetter_injective h0)
  have hsecond := congrArg BitVec.toNat (hexDigit_injective h1)
  have hthird := congrArg BitVec.toNat (hexDigit_injective h2)
  have hfourth := congrArg BitVec.toNat (hexDigit_injective h3)
  have hfifth := congrArg BitVec.toNat (hexDigit_injective h4)
  rw [familyOf_toNat, familyOf_toNat] at hfamily
  rw [secondDigit_toNat, secondDigit_toNat] at hsecond
  rw [lowNibble_toNat, lowNibble_toNat] at hthird hfifth
  rw [highNibble_toNat, highNibble_toNat] at hfourth
  exact ⟨byte_eq_of_nibbles (by omega) hthird, byte_eq_of_nibbles hfourth hfifth⟩

/-! ## Symptom classes (R89) -/

/-- The two nibbles whose class the source fixes take it under every parameter. -/
theorem symptomClass_fixed (p : Params) : symptomClass p 0x0 = .none ∧ symptomClass p 0xB = .unknown := ⟨rfl, rfl⟩

theorem describeStatus_00 (p : Params) : describeStatus p 0x00 = ⟨0x0, .none, false, 0, false⟩ :=
  congrArg (fun c => StatusView.mk 0x0 c false 0 false) (symptomClass_fixed p).1

theorem describeStatus_9B (p : Params) : describeStatus p 0x9B = ⟨0xB, .unknown, true, 0, true⟩ :=
  congrArg (fun c => StatusView.mk 0xB c true 0 true) (symptomClass_fixed p).2

/-- The default of `SYMPTOM_CODES`, nibble by nibble. -/
theorem symptomCode_default (x : BitVec 4) :
    (symptomCode (symptomClass ⟨Config.defaultSymptomCodes⟩ x)).toNat =
      if x.toNat = 0 then 0 else if x.toNat = 1 then 1 else if x.toNat = 2 then 2 else if x.toNat = 4 then 3
      else if x.toNat = 8 then 4 else 5 := by
  revert x
  decide

/-- Settles O35. -/
theorem symptomClassesOfNibbles : Obligations.SymptomClassesOfNibbles := by
  refine ⟨fun p => ⟨?_, ?_⟩, fun p x hp => ?_⟩
  · rw [describeStatus_00]
    rfl
  · rw [describeStatus_9B]
    rfl
  · obtain rfl : p = ⟨Config.defaultSymptomCodes⟩ := congrArg Params.mk hp
    exact symptomCode_default x

end Sys2Proof.Machine

/-! PROOFS. The submission of a command (R56, R92, R93, R96, R97): dropped while busy, and otherwise refused by the first
check that fails, or accepted. -/

namespace Sys2Proof.Machine

/-! ## A submission as a step (R56) -/

/-- Settles O6: a `CMD` write at an aligned offset, out of reset (`step_submission`). -/
theorem stepRunsSubmittedCommand : Obligations.StepRunsSubmittedCommand :=
  fun _ _ _ _ hp hn hw => step_submission hp hn hw

/-! ## While busy (R96, R97) -/

theorem exec_busy (i : Instr) {s : State} (hs : s.eng.seq ≠ .idle) : exec i s = .next s.dropWrite := by
  rw [exec_eq_submit, submit_busy _ hs]

/-- No word is looked at while busy, whether it is a command's or not. -/
theorem writeCmd_busy (w : Word) {s : State} (hs : s.eng.seq ≠ .idle) : writeCmd w s = .next s.dropWrite := by
  cases hw : decode w with
  | ok i => rw [writeCmd_ok hw, exec_busy i hs]
  | error e => rw [writeCmd_error hw, submit_busy _ hs]

/-- Settles O7. -/
theorem busyCommandDropped : Obligations.BusyCommandDropped :=
  fun _ hs => ⟨fun w => writeCmd_busy w hs, fun i => exec_busy i hs⟩

/-! ## A refusal (R92) -/

/-- An accepted command has left `ERR` cleared, so an error code means a refusal, and that is all it did. -/
theorem Accepted.eq_of_err {s t : State} (h : Accepted s t) (he : t.stat.err ≠ .none) :
    t = { s with stat.err := t.stat.err, stat.done := true } := by
  cases h with
  | refused code _ => exact beginCommand_refuse s code
  | _ => exact absurd rfl he

/-- Settles O8: what a submission can be (`Accepted`), and which of it leaves an error code. -/
theorem refusalChangesOnlyErrAndDone : Obligations.RefusalChangesOnlyErrAndDone :=
  fun _ _ _ hs hwrite he => (writeCmd_accepted hs hwrite).eq_of_err he

/-! ## The checks of each acceptance (R93) -/

theorem plenTooLong_eq_true {s : State} : s.plenTooLong = true ↔ s.tx.plen.toNat = 255 := by
  have := s.tx.plen.isLt
  rw [← Bool.not_eq_false, plenTooLong_eq_false]
  omega

theorem acceptEncode_err (s : State) :
    (acceptEncode s).stat.err = if s.tx.plen.toNat = 255 then .txPlenRange else s.stat.err := by
  simp only [acceptEncode, plenTooLong_eq_true]
  split <;> rfl

theorem acceptSend_err (s : State) :
    (acceptSend s).stat.err = if s.tx.plen.toNat = 255 then .txPlenRange else s.stat.err := by
  simp only [acceptSend, plenTooLong_eq_true]
  split <;> rfl

theorem enterEcho_stat (s : State) : (enterEcho s).stat = s.stat := by
  unfold enterEcho
  split <;> rfl

theorem acceptReadResp_err (s : State) :
    (acceptReadResp s).stat.err = if 80 < s.rx.cap.toNat then .capRange else s.stat.err := by
  by_cases h : 80 < s.rx.cap.toNat
  · rw [acceptReadResp_refused h, if_pos h, State.refuse_stat_err]
  · rw [acceptReadResp_ok (Nat.le_of_not_lt h), if_neg h, enterEcho_stat]
    rfl

/-- Only the outcome Ok has the code 1 (R94). -/
theorem outcome_code_eq_one {o : ReadOutcome} : o.code.toNat = 1 ↔ o = .ok := by
  cases o <;> decide

theorem acceptDtcDecode_err (s : State) :
    (acceptDtcDecode s).stat.err = if s.stat.outcome.code.toNat = 1 then s.stat.err else .noPayload := by
  simp only [acceptDtcDecode, outcome_code_eq_one, ite_not]
  split <;> rfl

theorem acceptDtcView_err (idx : Nat) (s : State) :
    (acceptDtcView idx s).stat.err =
      if s.dtc.valid = false ∨ s.dtc.neff.toNat ≤ idx then .badIndex else s.stat.err := by
  simp only [acceptDtcView, badIndex_eq_true]
  split <;> rfl

/-- The code in `ERR` where one check decides the error. -/
theorem errCode_of_check {t : State} {c : Prop} [Decidable c] {e f : CmdError} (h : t.stat.err = if c then e else f) :
    t.stat.err.code.toNat = if c then e.code.toNat else f.code.toNat := by
  rw [h]
  split <;> rfl

/-- Settles O9: an illegal word is refused whatever the state, and each command's acceptance makes its own check in the state
with `ERR` cleared. -/
theorem errReportsFirstFailingCheck : Obligations.ErrReportsFirstFailingCheck := by
  intro s t w hs hwrite
  cases hw : decode w with
  | error e =>
    rw [writeCmd_error hw, submit_idle _ hs] at hwrite
    cases hwrite
    rfl
  | ok i =>
    rw [writeCmd_ok hw, exec_idle i hs] at hwrite
    cases hwrite
    cases i with
    | encode => exact errCode_of_check (acceptEncode_err s.beginCommand)
    | send => exact errCode_of_check (acceptSend_err s.beginCommand)
    | readResp => exact errCode_of_check (acceptReadResp_err s.beginCommand)
    | dtcDecode => exact errCode_of_check (acceptDtcDecode_err s.beginCommand)
    | dtcView idx => exact errCode_of_check (acceptDtcView_err idx s.beginCommand)
    | dtcViewIn => rfl

end Sys2Proof.Machine

/-! PROOFS. The busy lock and `WERR` (R96): which writes are dropped, which are served, and what clears the flag. -/

namespace Sys2Proof.Machine

/-! ## Dropped writes -/

/-- What a busy-locked write names: `CMD`, an operand register, or a word of TXBUF (R96). -/
def Target.busyLocked : Target → Bool
  | .reg r => r.writable && r != .ctrl && r != .status
  | .txbuf _ => true
  | _ => false

theorem next_lockedWrite_busy {s : State} (write : State → State) (hs : s.eng.seq ≠ .idle) :
    (.next (s.lockedWrite write) : Host.Outcome State Fault Refusal) = .next s.dropWrite :=
  congrArg Host.Outcome.next (lockedWrite_busy write hs)

theorem writeReg_busy {r : Reg} {s : State} (hs : s.eng.seq ≠ .idle) (hr : (Target.reg r).busyLocked = true) (v : Word) :
    writeReg r v s = .next s.dropWrite := by
  cases r
  case cmd => exact writeCmd_busy v hs
  case txSid | txPlen | rxEchoLen | rxCap | viewIn => exact next_lockedWrite_busy _ hs
  all_goals exact nomatch hr

theorem writeWord_busy {s : State} {a : BitVec 12} (hs : s.eng.seq ≠ .idle) (ha : (targetAt a).busyLocked = true)
    (v : Word) : writeWord a v s = .next s.dropWrite := by
  unfold writeWord
  cases htarget : targetAt a with
  | reg r => exact writeReg_busy hs (htarget ▸ ha) v
  | txbuf j => exact next_lockedWrite_busy _ hs
  | _ => simp [htarget, Target.busyLocked] at ha

theorem regTarget_busyLocked : ∀ n ∈ [0x010, 0x014, 0x018, 0x028, 0x02C, 0x048],
    n < 0x100 ∧ (regTarget (n / 4)).busyLocked = true := by decide

/-- The offsets of `CMD`, of the operand registers and of TXBUF name what the lock drops (R43). -/
theorem targetAt_busyLocked {a : BitVec 12}
    (h : a.toNat ∈ [0x010, 0x014, 0x018, 0x028, 0x02C, 0x048] ∨ (0x100 ≤ a.toNat ∧ a.toNat < 0x200)) :
    (targetAt a).busyLocked = true := by
  rcases h with h | ⟨hlo, hhi⟩
  · obtain ⟨hlt, hreg⟩ := regTarget_busyLocked _ h
    rw [targetAt_register hlt]
    exact hreg
  · rw [targetAt, if_neg (Nat.not_lt.2 hlo), if_pos hhi]
    rfl

/-! ## Served accesses -/

theorem writeCtrl_softReset {s : State} {v : Word} (h : v.getLsbD 2 = true) : writeCtrl v s = s.resetAll := if_pos h

/-- A read out of reset is answered in every phase. -/
theorem step_hostRead {s : State} {a : BitVec 12} {rest : List Event} (hr : s.inReset = false) (ha : a.toNat % 4 = 0)
    (hp : s.env.pending = .hostRead .bits32 a :: rest) :
    ∃ t, step s = .next t ∧ t.env.readData = s.env.readData ++ [readWord s a] := by
  obtain ⟨hn, -⟩ := inReset_eq_false.1 hr
  obtain ⟨t, hstep, henv, -⟩ := hostReadChangesNothing s a rest hp hn ha
  exact ⟨t, hstep, congrArg Env.readData henv⟩

/-! ## What clears `WERR` -/

theorem Accepted.werr {s t : State} (h : Accepted s t) : t.stat.werr = s.stat.werr := by
  cases h <;> rfl

theorem Edge.werr {s t : State} (h : Edge s t) : t.stat.werr = s.stat.werr := by
  cases h with
  | received b rest _ hr _ _ =>
    have ht := rxTransfer_taken (b := b) (s := { s with env.rxStream := rest }) hr
    exact congrArg Status.werr ht.sameResults.stat
  | _ => rfl

theorem lockedWrite_keeps_werr {s : State} {write : State → State} (hset : s.stat.werr = true)
    (hwrite : (write s).stat.werr = s.stat.werr) : (s.lockedWrite write).stat.werr = true := by
  unfold State.lockedWrite
  split
  · rfl
  · rw [hwrite, hset]

theorem writeCmd_keeps_werr {v : Word} {s t : State} (hset : s.stat.werr = true) (h : writeCmd v s = .next t) :
    t.stat.werr = true := by
  by_cases hs : s.eng.seq = .idle
  · rw [(writeCmd_accepted hs h).werr, hset]
  · cases (writeCmd_busy v hs).symm.trans h
    rfl

/-- Of the registers only `STATUS` and `CTRL` give a write a way to clear `WERR`, by bit 2 of the word in both. -/
theorem writeReg_clears_werr {r : Reg} {v : Word} {s t : State} (hset : s.stat.werr = true)
    (hclear : t.stat.werr = false) (h : writeReg r v s = .next t) : (r = .status ∨ r = .ctrl) ∧ v.getLsbD 2 = true := by
  cases r
  case cmd => simp [writeCmd_keeps_werr hset h] at hclear
  all_goals cases h
  case status =>
    have hclear : (s.stat.werr && !v.getLsbD 2) = false := hclear
    exact ⟨.inl rfl, by simpa [hset] using hclear⟩
  case ctrl =>
    refine ⟨.inr rfl, ?_⟩
    by_contra hv
    rw [writeCtrl_stores (Bool.eq_false_of_not_eq_true hv)] at hclear
    exact nomatch hset.symm.trans hclear
  case txSid | txPlen | rxEchoLen | rxCap | viewIn => simp [lockedWrite_keeps_werr hset] at hclear
  all_goals exact nomatch hset.symm.trans hclear

theorem writeWord_clears_werr {a : BitVec 12} {v : Word} {s t : State} (hset : s.stat.werr = true)
    (hclear : t.stat.werr = false) (h : writeWord a v s = .next t) :
    (targetAt a = .reg .status ∨ targetAt a = .reg .ctrl) ∧ v.getLsbD 2 = true := by
  unfold writeWord at h
  split at h
  · rename_i r hr
    obtain ⟨rfl | rfl, hv⟩ := writeReg_clears_werr hset hclear h
    · exact ⟨.inl hr, hv⟩
    · exact ⟨.inr hr, hv⟩
  · rename_i j _
    cases h
    have hkept : (s.lockedWrite (putTxWord j v)).stat.werr = true := lockedWrite_keeps_werr hset rfl
    exact nomatch hkept.symm.trans hclear
  all_goals
    cases h
    exact nomatch hset.symm.trans hclear

/-- The events that may clear `WERR` (R96): a 1 written to its bit of `STATUS`, a soft reset, and `rst_n`. -/
def WerrCleared (e : Event) : Prop :=
  (∃ v : Word, e = .hostWrite .bits32 0x00C v ∧ v.getLsbD 2 = true) ∨
    (∃ v : Word, e = .hostWrite .bits32 0x008 v ∧ v.getLsbD 2 = true) ∨ e = .rstPin false

theorem handle_clears_werr {e : Event} {s t : State} (hset : s.stat.werr = true) (hclear : t.stat.werr = false)
    (h : handle e s = .next t) : WerrCleared e := by
  cases e with
  | hostRead size addr =>
    rw [handle] at h
    obtain ⟨-, -, -, hread⟩ := hostAccess_next h
    cases hread
    exact nomatch hset.symm.trans hclear
  | hostWrite size addr v =>
    rw [handle] at h
    obtain ⟨-, rfl, haddr, hwrite⟩ := hostAccess_next h
    obtain ⟨htarget | htarget, hv⟩ := writeWord_clears_werr (s := s.leaveReset) hset hclear hwrite
    · obtain rfl := offsetsNameDistinctTargets addr 0x00C haddr rfl htarget (by simp [htarget])
      exact .inl ⟨v, rfl, hv⟩
    · obtain rfl := offsetsNameDistinctTargets addr 0x008 haddr rfl htarget (by simp [htarget])
      exact .inr (.inl ⟨v, rfl, hv⟩)
  | rxArrive b =>
    cases h
    exact nomatch hset.symm.trans hclear
  | clkEdge rxValid txReady =>
    cases h
    rw [(clockEdge_edge rxValid txReady s).werr] at hclear
    exact nomatch hset.symm.trans hclear
  | rstPin level =>
    cases level with
    | false => exact .inr (.inr rfl)
    | true =>
      cases h
      exact nomatch hset.symm.trans hclear

theorem step_clears_werr {s t : State} (hset : s.stat.werr = true) (hclear : t.stat.werr = false)
    (h : step s = .next t) : ∃ e rest, s.env.pending = e :: rest ∧ WerrCleared e := by
  rw [step, stepEvent] at h
  split at h
  · cases h
    exact nomatch hset.symm.trans hclear
  · rename_i e rest hp
    exact ⟨e, rest, hp, handle_clears_werr (s := s.afterEvent rest) hset hclear h⟩

/-- Settles O44: the dropped writes, the served accesses, and the three causes of `step_clears_werr`. -/
theorem busyLockDropsWrites : Obligations.BusyLockDropsWrites := by
  refine ⟨fun s a v hs _ ha => writeWord_busy hs (targetAt_busyLocked ha) v,
    fun s v hv => congrArg Host.Outcome.next (writeCtrl_stores hv), fun _ _ => rfl,
    fun s v hv => congrArg Host.Outcome.next (writeCtrl_softReset hv),
    fun _ _ _ _ hr ha hp => step_hostRead hr ha hp, fun s t hstep hset hclear => ?_⟩
  obtain ⟨e, rest, hp, ⟨v, rfl, hv⟩ | ⟨v, rfl, hv⟩ | rfl⟩ := step_clears_werr hset hclear hstep
  · exact ⟨rest, .inl ⟨v, hp, hv⟩⟩
  · exact ⟨rest, .inr (.inl ⟨v, hp, hv⟩)⟩
  · exact ⟨rest, .inr (.inr hp)⟩

end Sys2Proof.Machine

/-! PROOFS. The interrupt output (R98, R99): `DONE` under `IRQ_EN`. -/

namespace Sys2Proof.Machine

theorem irq_of_done {s : State} (h : s.stat.done = true) : s.irq = s.ctrl.irqEn := by
  rw [State.irq, h, Bool.true_and]

theorem irq_of_not_done {s : State} (h : s.stat.done = false) : s.irq = false := by
  rw [State.irq, h, Bool.false_and]

/-- A command that has ended raises `irq` if `IRQ_EN` is set; one that runs on leaves it at the level `running`. -/
def IrqFollows (s t : State) (running : Bool) : Prop :=
  (t.eng.seq = .idle → t.irq = s.ctrl.irqEn) ∧ (t.eng.seq ≠ .idle → t.irq = running)

theorem IrqFollows.ended {s t : State} {running : Bool} (hq : t.eng.seq = .idle) (hd : t.stat.done = true)
    (hc : t.ctrl = s.ctrl) : IrqFollows s t running :=
  ⟨fun _ => by rw [irq_of_done hd, hc], fun hne => absurd hq hne⟩

theorem IrqFollows.runs {s t : State} {running : Bool} (hq : t.eng.seq ≠ .idle) (h : t.irq = running) :
    IrqFollows s t running :=
  ⟨fun heq => absurd heq hq, fun _ => h⟩

/-- A submission has cleared `DONE`; a refusal and a completion at once set it again (R92, R95). -/
theorem Accepted.irq {s t : State} (h : Accepted s t) (hs : s.eng.seq = .idle) : IrqFollows s t false := by
  cases h with
  | refused _ _ => exact .ended hs rfl rfl
  | encode _ => exact .ended rfl rfl rfl
  | send _ => exact .runs (by simp) (irq_of_not_done rfl)
  | readEcho _ _ => exact .runs (by simp) (irq_of_not_done rfl)
  | readLen _ _ => exact .runs (by simp [enterLen]) (irq_of_not_done rfl)
  | decoded _ => exact .ended rfl rfl rfl
  | viewed _ => exact .ended rfl rfl rfl

/-- While a command runs, only its completion moves `irq`. -/
theorem Edge.irq {s t : State} (h : Edge s t) (hs : s.eng.seq ≠ .idle) : IrqFollows s t s.irq := by
  cases h with
  | nothing => exact .runs hs rfl
  | leaves _ => exact .runs hs rfl
  | sent _ _ _ => exact .runs hs rfl
  | received b rest _ hr _ _ =>
    have ht := rxTransfer_taken (b := b) (s := { s with env.rxStream := rest }) hr
    have hirq : (rxTransfer b { s with env.rxStream := rest }).irq = s.irq := by
      rw [State.irq, ht.sameResults.stat, ht.sameResults.ctrl]
      rfl
    exact .runs (busy_eq_true.1 ht.busy) hirq
  | completesSend _ _ _ => exact .ended rfl rfl rfl
  | completesShort _ _ _ => exact .ended rfl rfl rfl
  | completesFrame _ _ _ => exact .ended rfl rfl rfl

/-- A 1 written to `DONE` lowers `irq` (R14, R98). -/
theorem writeStatus_irq {v : Word} (h : v.getLsbD 1 = true) (s : State) : (writeStatus v s).irq = false :=
  irq_of_not_done (by simp [writeStatus, clearStatus, h])

/-- Settles O46: an acknowledge, a submission by `Accepted.irq`, and a clock edge by `Edge.irq`. -/
theorem interruptFollowsDone : Obligations.InterruptFollowsDone := by
  refine ⟨fun s t v hv hwrite => ?_, fun s t i hs hexec => (exec_accepted hs hexec).irq hs,
    fun s t w hs hwrite => (writeCmd_accepted hs hwrite).irq hs, fun s t rxValid txReady rest hp hs hstep => ?_⟩
  · cases hwrite
    exact writeStatus_irq hv s
  · cases (step_clkEdge hp).symm.trans hstep
    exact (clockEdge_edge rxValid txReady (s.afterEvent rest)).irq hs

end Sys2Proof.Machine

/-! PROOFS. Reset (R109, R110, R111): what the Host reads of the reset values, the two ways into reset and the way out of
it, and the base case of the four invariants. -/

namespace Sys2Proof.Machine

/-! ## A state at its reset values -/

namespace State.atReset

theorem seq {s : State} (h : s.atReset) : s.eng.seq = .idle := by
  obtain ⟨-, -, -, -, -, -, -, -, heng⟩ := h
  rw [heng]
  rfl

theorem irq {s : State} (h : s.atReset) : s.irq = false := by
  obtain ⟨-, hstat, -⟩ := h
  exact irq_of_not_done (by rw [hstat]; rfl)

theorem sendOk {s : State} (h : s.atReset) : s.sendOk := .of_not_tx (by simp [h.seq])

end State.atReset

theorem reset_atReset : State.reset.atReset := ⟨rfl, rfl, rfl, rfl, rfl, rfl, rfl, rfl, rfl⟩

/-- No port is active between commands (R49). -/
theorem rxReady_idle {s : State} (h : s.eng.seq = .idle) : s.rxReady = false := by
  simp [State.rxReady, h, Seq.reading]

theorem txValid_idle {s : State} (h : s.eng.seq = .idle) : s.txValid = false := by
  simp [State.txValid, h]

/-! ## The values read at reset (R110) -/

/-- The word each register reads at reset. -/
def Reg.resetWord : Reg → Word
  | .id => 0x4B575032
  | .cfg => 0x00FE1A50
  | .rxCap => 0x50
  | _ => 0

theorem readReg_reset (r : Reg) : readReg State.reset r = r.resetWord := by cases r <;> rfl

theorem readWord_reset {a : BitVec 12} {r : Reg} (h : targetAt a = .reg r) : readWord State.reset a = r.resetWord := by
  rw [readWord, h]
  exact readReg_reset r

/-- These offsets name the registers other than `ID`, `CFG` and `RX_CAP` (R43). -/
theorem targetAt_zeroAtReset :
    ∀ a ∈ ([0x008, 0x00C, 0x010, 0x014, 0x018, 0x01C, 0x020, 0x024, 0x028, 0x030, 0x034, 0x038, 0x03C, 0x040, 0x044, 0x048,
      0x04C, 0x050, 0x054, 0x058, 0x05C] : List (BitVec 12)),
      ∃ r, targetAt a = .reg r ∧ r.resetWord = 0 := by
  simp only [List.forall_mem_cons, List.not_mem_nil, false_imp_iff, implies_true, and_true]
  and_intros <;> exact ⟨_, rfl, rfl⟩

/-- A byte of TXBUF that nothing has written is a free value (R35). -/
theorem txByte_unwritten {s : State} (h : s.mem = []) (i : Nat) : s.txByte i = Config.txbufByte s.free.txBase i := by
  simp [State.txByte, h]

/-- Between commands a byte of RXBUF at or above `RX_PLEN` reads as a free value (R36). -/
theorem rxHostByte_beyond {s : State} {i : Nat} (hs : s.eng.seq = .idle) (hi : s.rx.plen.toNat ≤ i) :
    s.rxHostByte i = Config.rxbufByte (s.rxDraw i) i := by
  rw [State.rxHostByte, busy_eq_false.2 hs, if_neg (by simp), if_neg (Nat.not_lt.2 hi), State.rxFree]

/-- Settles O48: the registers by `Reg.resetWord`, the buffers by `txByte_unwritten` and `rxHostByte_beyond`. -/
theorem resetValues : Obligations.ResetValues := by
  refine ⟨readWord_reset (r := .id) rfl, readWord_reset (r := .cfg) rfl, readWord_reset (r := .rxCap) rfl,
    fun a ha => ?_, fun k hk => ?_, fun i _ => ⟨_, txByte_unwritten rfl i⟩,
    fun i _ => ⟨_, rxHostByte_beyond rfl (Nat.zero_le i)⟩, rfl, reset_atReset.irq,
    fun s => congrArg Env.rxStream s.resetAll_env⟩
  · obtain ⟨r, htarget, hzero⟩ := targetAt_zeroAtReset a ha
    exact (readWord_reset htarget).trans hzero
  · exact Vector.getElem?_replicate.trans (if_pos hk)

/-! ## Into reset and out of it -/

/-- Settles O49: the write is `resetAll` whatever its other bits and whether or not the KFC is busy. -/
theorem softResetRestores : Obligations.SoftResetRestores := by
  intro s v hv
  have hreset := resetAll_atReset s
  exact ⟨s.resetAll, congrArg Host.Outcome.next (writeCtrl_softReset hv), hreset, txValid_idle hreset.seq,
    rxReady_idle hreset.seq, hreset.irq, rfl, rfl⟩

/-- The reset pin and the held flag are no part of what a reset sets (R109). -/
theorem setRstPin_low_atReset (s : State) : (setRstPin false s).atReset := resetAll_atReset s

/-- The first clock edge after `rst_n` is 1 leaves reset and moves nothing else (R109). -/
theorem clockEdge_leaves {rxValid txReady : Bool} {s : State} (hn : s.env.rstN = true) (hh : s.env.held = true) :
    clockEdge rxValid txReady s = s.leaveReset := by
  simp [clockEdge, State.inReset, hn, hh]

/-- Settles O50: the pin by `setRstPin_low_atReset`, the edges while it is low and after it by `clockEdge_rstN_low` and
`clockEdge_leaves`. -/
theorem resetPinHoldsReset : Obligations.ResetPinHoldsReset := by
  intro s rxValid txReady
  have hreset := setRstPin_low_atReset s
  exact ⟨hreset, rxReady_idle hreset.seq, txValid_idle hreset.seq, hreset.irq, rfl, rfl, clockEdge_rstN_low,
    clockEdge_leaves⟩

/-! ## The base case of the invariants -/

/-- Settles O51: each of the four holds of every state at its reset values. -/
theorem invariantsHoldAtReset : Obligations.InvariantsHoldAtReset :=
  ⟨.of_atReset reset_atReset, reset_atReset.controlOk (fun h => nomatch h), reset_atReset.sendOk,
    .of_atReset reset_atReset⟩

end Sys2Proof.Machine
